-- ==== Sys2Proof/Word.lean ====
section
/-!
DEFINITION. The word types of the block: the 64-bit request, entry and response word (R300, R325) and the 32-bit tick (R14, R124).
-/

namespace Sys2Proof

/-- A request, queue-entry or response word: exactly 64 bits (30_encoding R325). -/
abbrev Word := BitVec 64

/-- A tick value or tick count: unsigned 32 bits, wrapping (00_scope R14, 10_state R124). -/
abbrev Tick := BitVec 32

/-- One byte of a word carried over a byte channel (20_memory R201). -/
abbrev Byte := BitVec 8

end Sys2Proof
end

