-- ==== Sys2Proof/Config.lean ====
section
/-!
DEFINITION. The configuration parameters of 00_scope R13 with their constraints, and the one free value of the model:
which agents the scheduler names where the spec fixes no order (60_exceptions R712).
-/

namespace Sys2Proof

/-- The parameters of 00_scope R13, fixed for the whole run (R133). Types carry the ranges the spec gives as widths
(cutter positions and ramp entries are unsigned 16 bits); the other constraints are `Config.Valid`. -/
structure Config where
  /-- `TICKS_PER_MS`, timer ticks per millisecond. -/
  ticksPerMs : Nat
  /-- `MIN_HALF_PERIOD`, the smallest half-period in ticks. -/
  minHalfPeriod : Nat
  /-- `IDLE_INTERVAL`, the long idle interval in ticks. -/
  idleInterval : Nat
  /-- `QUEUE_CAPACITY`, N. -/
  queueCapacity : Nat
  /-- `QUEUE_HEADROOM`, H. -/
  queueHeadroom : Nat
  /-- `RAMP_ENABLED`. -/
  rampEnabled : Bool
  /-- `RAMP_TABLE`, the repeat counts; its length is L. -/
  rampTable : List (BitVec 16)
  /-- `RAMP_START_HALF_PERIOD`. -/
  rampStartHalfPeriod : Nat
  /-- `CUTTER_UP_POS`. -/
  cutterUpPos : BitVec 16
  /-- `CUTTER_DOWN_POS`. -/
  cutterDownPos : BitVec 16
  /-- `MOTORS_ON_AT_RESET`. -/
  motorsOnAtReset : Bool
  deriving DecidableEq, Repr

/-- The constraints of 00_scope R13's table. "A model must reject a configuration that breaks a constraint." -/
abbrev Config.Valid (c : Config) : Prop :=
  (1 ≤ c.ticksPerMs ∧ c.ticksPerMs ≤ 65537) ∧
  (1 ≤ c.minHalfPeriod ∧ c.minHalfPeriod ≤ 2 ^ 31 - 1) ∧
  (1 ≤ c.idleInterval ∧ c.idleInterval ≤ 2 ^ 31 - 1) ∧
  (2 ≤ c.queueCapacity ∧ ∃ k ∈ List.range 17, c.queueCapacity = 2 ^ k) ∧
  (2 ≤ c.queueHeadroom ∧ c.queueHeadroom ≤ c.queueCapacity) ∧
  (1 ≤ c.rampTable.length ∧ c.rampTable.length ≤ 65535 ∧ 0#16 ∉ c.rampTable) ∧
  (c.minHalfPeriod ≤ c.rampStartHalfPeriod ∧ c.rampStartHalfPeriod ≤ 2 ^ 31 - 1)

/-- The configuration `State.reset` carries. N = 64 and H = 3 are the spec's reference values (R13); every other value is OPEN
in the spec and is the test configuration CFG-R's of 95_test_vectors with the ramp off (CFG-A). DESIGN CHOICE (log 4), unsafe
for a statement about `State.reset` alone: a statement about every state holds for every configuration. -/
def Config.reference : Config where
  ticksPerMs := 10
  minHalfPeriod := 2
  idleInterval := 100
  queueCapacity := 64
  queueHeadroom := 3
  rampEnabled := false
  rampTable := [2#16, 1#16]
  rampStartHalfPeriod := 10
  cutterUpPos := 90#16
  cutterDownPos := 10#16
  motorsOnAtReset := false

/-- The agents that take steps (10_state R100): the foreground, the interrupt handler and the tick counter. The fourth agent, the
HOST, is an input: it chooses the requests. -/
inductive Agent where
  | fg
  | isr
  | tick
  deriving DecidableEq, Repr, Inhabited

/-- The agents the scheduler names in its n-th block of choices: a FREE VALUE with no body. "Any enabled step may be taken next"
(60_exceptions R712). DESIGN CHOICE (log 5), safe: nothing constrains it, so a claim holds for every weakly fair schedule. -/
opaque Config.freeBlock : Nat → List Agent

end Sys2Proof
end

