-- ==== Sys2Proof/Syntax.lean ====
section
/-!
DEFINITION. The operations: one constructor for each of the 23 rows of spec/opcode_table.json (18 requests, 4 queue-entry kinds
and the timer event), and the names under which a request word is rejected.
-/

namespace Sys2Proof

/-- The event and word spaces a row of the opcode table stands in (30_encoding R304, R311, R315). -/
inductive Space where
  | request
  | queueEntry
  | event
  deriving DecidableEq, Repr

/-- The request formats of 30_encoding R305. -/
inductive Format where
  | M
  | S
  | X
  | Z
  deriving DecidableEq, Repr

/-- The operations. `durationMs`, `settleMs` and the register index are the 16-bit field IMM16; `deltaSteps` is the 32-bit field
IMM32, read as two's complement by the rules (30_encoding R305, R306). -/
inductive Instr where
  | qmove (durationMs : BitVec 16) (deltaSteps : BitVec 32)
  | qcutup (settleMs : BitVec 16)
  | qcutdn (settleMs : BitVec 16)
  | qcuttg (settleMs : BitVec 16)
  | qfull
  | qempty
  | poll
  | stopall
  | stop
  | start (durationMs : BitVec 16) (deltaSteps : BitVec 32)
  | isactive
  | moton
  | motoff
  | mottg
  | cutup (settleMs : BitVec 16)
  | cutdn (settleMs : BitVec 16)
  | cuttg (settleMs : BitVec 16)
  | rdreg (index : BitVec 16)
  | eMove (durationMs : BitVec 16) (deltaSteps : BitVec 32)
  | eCutup (settleMs : BitVec 16)
  | eCutdn (settleMs : BitVec 16)
  | eCuttg (settleMs : BitVec 16)
  | timerEvent
  deriving DecidableEq, Repr

/-- The space an operation's row stands in. -/
def Instr.space : Instr → Space
  | .qmove _ _ => .request
  | .qcutup _ => .request
  | .qcutdn _ => .request
  | .qcuttg _ => .request
  | .qfull => .request
  | .qempty => .request
  | .poll => .request
  | .stopall => .request
  | .stop => .request
  | .start _ _ => .request
  | .isactive => .request
  | .moton => .request
  | .motoff => .request
  | .mottg => .request
  | .cutup _ => .request
  | .cutdn _ => .request
  | .cuttg _ => .request
  | .rdreg _ => .request
  | .eMove _ _ => .queueEntry
  | .eCutup _ => .queueEntry
  | .eCutdn _ => .queueEntry
  | .eCuttg _ => .queueEntry
  | .timerEvent => .event

/-- Why a word is no legal request (30_encoding R307): the clause of R307 it breaks. -/
inductive Reject where
  /-- `w[63:56]` is no OP of R304. -/
  | unknownOp
  /-- `w[55:48]` is not 0. -/
  | reservedNonzero
  /-- IMM16 must be 0 in this format (R305) and is not. -/
  | imm16Nonzero
  /-- IMM32 must be 0 in this format (R305) and is not. -/
  | imm32Nonzero
  /-- The index of RDREG is above 6. -/
  | indexOutOfRange
  deriving DecidableEq, Repr

end Sys2Proof
end

