-- ==== Sys2Proof/Machine/State.lean ====
section
/-!
DEFINITION. The state of the block as plain data (10_state R100 to R142), its reset (R142, 70_reset R800), the faults and the
refusals.
-/

namespace Sys2Proof.Machine

/-- `rampPhase` (R111). CRUISE is no value of its own: it is `accel` once `halfPeriod` is `targetHalfPeriod`. -/
inductive RampPhase where
  | none
  | accel
  | decel
  deriving DecidableEq, Repr

/-- `direction` (R115). -/
inductive Direction where
  | reverse
  | forward
  deriving DecidableEq, Repr

/-- `fgMode`, the foreground's control state (R128). -/
inductive FgMode where
  | ready
  | settling
  deriving DecidableEq, Repr

/-- The result codes of 30_encoding R303. -/
inductive ResultCode where
  | ok
  | queueFull
  | moveRejected
  | illegalRequest
  deriving DecidableEq, Repr

/-- What a `Log` event says: the one logged error of 60_exceptions R701. -/
inductive LogReason where
  | moveRejected
  deriving DecidableEq, Repr

/-- The output events of R131. -/
inductive Event where
  | stepRise
  | stepFall
  | dir (level : Bool)
  | enable (level : Bool)
  | servo (pos : BitVec 16)
  | complete
  | disarmed
  | log (reason : LogReason)
  deriving DecidableEq, Repr

/-- An event of the trace with the `now` it is stamped with (R131). -/
structure Stamped where
  event : Event
  time : Tick
  deriving DecidableEq, Repr

/-- The model faults of 60_exceptions R703: "A fault stands for 'the source does not say what happens', not for a behaviour of
the hardware". `raiseFault` records one in `State.faults`; `step` answers it in every later step, since no agent has one. -/
inductive Fault where
  /-- Raised by START, directly or from POLL's E_MOVE dispatch, when `position + deltaSteps` leaves the signed 32-bit range
  (R415, R703). Safe: the spec's own fault, the machine stops. -/
  | positionOverflow
  /-- Raised by POLL's dispatch of an entry of unknown kind (R606, R703). Safe: the spec's own fault, and unreachable. -/
  | badQueueEntry
  deriving DecidableEq, Repr

/-- Why a step has no meaning. -/
inductive Refusal where
  /-- Raised by an arm of `exec` that has no meaning yet. Safe: the machine stops. No arm of this model raises it. -/
  | notModelled (mnemonic : String)
  /-- Raised by `step` when the configuration breaks a constraint of 00_scope R13: "A model must reject a configuration that
  breaks a constraint." Safe: the machine stops (log 3). -/
  | invalidConfiguration
  deriving DecidableEq, Repr

/-- The queue's slot memory (R116, R200): (slot index, entry word) pairs in one canonical form, `Memory.wf`. The smallest unit of
the space is a whole 64-bit slot. -/
abbrev Memory := List (Nat × Word)

/-- What a slot that is not listed holds. The spec makes a slot's reset value a draw (R116); DESIGN CHOICE (log 11). -/
def Memory.unlisted : Word := 0#64

/-- The canonical form of a slot memory of `n` slots: indices strictly rising and below `n`, and no entry that an unlisted slot
would read as anyway. -/
abbrev Memory.wf (n : Nat) (m : Memory) : Prop :=
  m.Pairwise (fun a b => a.1 < b.1) ∧ ∀ c ∈ m, c.1 < n ∧ c.2 ≠ Memory.unlisted

/-- The state of the block. Field docstrings name the register of 10_state.md and its rule. -/
@[ext]
structure State where
  /-- The configuration parameters, read-only for the whole run (00_scope R13, R133). The model's own place for them (log 3). -/
  cfg : Config
  /-- `position`, signed (R102). -/
  position : BitVec 32
  /-- `target`, signed (R103). -/
  target : BitVec 32
  /-- `halfPeriod`, unsigned (R104). -/
  halfPeriod : BitVec 32
  /-- `pulsePhase` (R105). -/
  pulsePhase : Bool
  /-- `nextEventTime` (R106). -/
  nextEventTime : Tick
  /-- `active` (R107). -/
  active : Bool
  /-- `rampStartPosition`, signed (R109). -/
  rampStartPosition : BitVec 32
  /-- `rampMidpoint`, signed (R110). -/
  rampMidpoint : BitVec 32
  /-- `rampPhase` (R111). -/
  rampPhase : RampPhase
  /-- `rampIndex` (R112). -/
  rampIndex : Nat
  /-- `rampIterCount` (R113). -/
  rampIterCount : BitVec 16
  /-- `targetHalfPeriod`, unsigned (R114). -/
  targetHalfPeriod : BitVec 32
  /-- `direction` (R115). -/
  direction : Direction
  /-- `slots` (R116). -/
  slots : Memory
  /-- `writeIndex` (R117). -/
  writeIndex : Nat
  /-- `readIndex` (R117). -/
  readIndex : Nat
  /-- `currentTarget` (R119). -/
  currentTarget : BitVec 16
  /-- The output `STEP` (R120). -/
  stepOut : Bool
  /-- The output `DIR` (R121). -/
  dirOut : Bool
  /-- The output and control register `ENABLE` (R122, R133). -/
  enableOut : Bool
  /-- The output `SERVO` (R123). -/
  servo : BitVec 16
  /-- `now` (R124). -/
  now : Tick
  /-- `timerDeadline` (R125). -/
  timerDeadline : Tick
  /-- `irqPending` (R126). -/
  irqPending : Bool
  /-- `fgMode` (R128). -/
  fgMode : FgMode
  /-- `settleRemaining` (R128). -/
  settleRemaining : BitVec 32
  /-- `held`, the response FG gives when a settle delay ends (R128, R550). -/
  held : Word
  /-- `faults`, a set: no reason is listed twice (R130). -/
  faults : List Fault
  /-- `trace`, oldest event first (R131). -/
  trace : List Stamped
  /-- The HOST's requests not yet taken, oldest first (R300, R843). The model's own (log 6). -/
  requests : List Word
  /-- The responses given, oldest first (R300, R302). The model's own (log 7). -/
  responses : List Word
  /-- Which agents are named next; past its end comes a block of free choices (R712). The model's own (log 5). -/
  schedule : List Agent
  /-- How many blocks of free choices have been begun. The model's own (log 5). -/
  turns : Nat
  deriving DecidableEq, Repr

/-- What an agent does when it moves: one of the steps of R712. -/
inductive Action where
  /-- FG takes a request word of the HOST. -/
  | takeRequest (w : Word)
  /-- FG ends a settle delay, `SettleEnd` (R551). -/
  | settleEnd
  /-- The interrupt handler runs. -/
  | isr
  /-- Time advances by one tick. -/
  | tick
  deriving DecidableEq, Repr

/-- The draws a reset takes (70_reset R800): the tick counter's value, one direction, and the slots' contents. -/
structure Draws where
  now : Tick
  direction : Direction
  slots : Memory
  deriving DecidableEq, Repr

/-- The reset procedure of R800 and R142, for a configuration and its draws. It emits no event. -/
def State.resetWith (c : Config) (d : Draws) : State where
  cfg := c
  position := 0#32
  target := 0#32
  halfPeriod := 0#32
  pulsePhase := false
  nextEventTime := d.now + BitVec.ofNat 32 c.idleInterval
  active := false
  rampStartPosition := 0#32
  rampMidpoint := 0#32
  rampPhase := .none
  rampIndex := 0
  rampIterCount := 0#16
  targetHalfPeriod := 0#32
  direction := d.direction
  slots := d.slots
  writeIndex := 0
  readIndex := 0
  currentTarget := c.cutterUpPos
  stepOut := false
  dirOut := decide (d.direction = .forward)
  enableOut := c.motorsOnAtReset
  servo := c.cutterUpPos
  now := d.now
  timerDeadline := d.now + BitVec.ofNat 32 c.idleInterval
  irqPending := false
  fgMode := .ready
  settleRemaining := 0#32
  held := 0#64
  faults := []
  trace := []
  requests := []
  responses := []
  schedule := []
  turns := 0

/-- The draws `State.reset` takes. DESIGN CHOICE (log 1), unsafe for a statement about `State.reset` alone: the spec admits any
value (R116, R124, D58). -/
def Draws.zero : Draws where
  now := 0#32
  direction := .reverse
  slots := []

/-- The machine right after reset: `State.resetWith` at the reference configuration (log 4) and the zero draws (log 1). -/
def State.reset : State := State.resetWith Config.reference Draws.zero

end Sys2Proof.Machine
end

