-- ==== Sys2Proof/Machine/Operands.lean ====
section
/-!
DEFINITION. Operand and value arithmetic: the pseudocode's integer primitives (00_scope R17), the half-period of a move
(40_generator R411), the settle delay in ticks (43_cutter R550), response words (30_encoding R302, R303, R320) and the register
values RDREG delivers (R322).
-/

namespace Sys2Proof.Machine

/-! ## The integer primitives of R17 -/

/-- `u32(x)`: the 32-bit pattern of an integer. -/
def u32 (x : Int) : BitVec 32 := BitVec.ofInt 32 x

/-- `s32(p)`: the signed value of a 32-bit pattern. -/
def s32 (p : BitVec 32) : Int := p.toInt

/-- `sdiff32(a, b)`: the wrap-aware signed distance from tick `b` to tick `a`. -/
def sdiff32 (a b : Tick) : Int := (a - b).toInt

/-- `trunc_div(a, b)`: division rounding toward zero. -/
def truncDiv (a b : Int) : Int := Int.tdiv a b

/-- Whether an exact integer is a signed 32-bit value (R415). -/
def fitsS32 (x : Int) : Bool := decide (-(2 ^ 31) ≤ x ∧ x ≤ 2 ^ 31 - 1)

/-! ## Milliseconds to ticks -/

/-- `HalfPeriodFor(d, δ)` of R411, exact on unbounded integers. -/
def halfPeriodFor (c : Config) (d : BitVec 16) (δ : Int) : Nat :=
  max ((d.toNat * c.ticksPerMs) / (2 * δ.natAbs)) c.minHalfPeriod

/-- The settle delay of R550 in ticks, `s × TICKS_PER_MS`. -/
def settleTicks (c : Config) (s : BitVec 16) : Nat := s.toNat * c.ticksPerMs

/-- The half-period a ramped move starts from, and above which deceleration never slows it (R481, R486). -/
def rampSlowest (c : Config) (targetHalfPeriod : BitVec 32) : Nat :=
  max c.rampStartHalfPeriod targetHalfPeriod.toNat

/-! ## Responses -/

/-- The code of R303. -/
def resultBits : ResultCode → BitVec 8
  | .ok => 0x00#8
  | .queueFull => 0x01#8
  | .moveRejected => 0x02#8
  | .illegalRequest => 0x03#8

/-- The response word of R302: CODE, 24 zero bits, VALUE. -/
def responseWord (code : ResultCode) (value : BitVec 32) : Word :=
  resultBits code ++ 0#24 ++ value

/-- A Boolean as a response value (R320). -/
def boolValue (b : Bool) : BitVec 32 := if b then 1#32 else 0#32

/-- `rampPhase` as a response value (R320). -/
def rampPhaseValue : RampPhase → BitVec 32
  | .none => 0#32
  | .accel => 1#32
  | .decel => 2#32

/-- `Value(k)`, the register of index `k` (R322); `none` for an index R322 does not list. -/
def registerValue (k : BitVec 16) (s : State) : Option (BitVec 32) :=
  match k with
  | 0#16 => some s.position
  | 1#16 => some s.target
  | 2#16 => some (boolValue s.active)
  | 3#16 => some s.halfPeriod
  | 4#16 => some s.targetHalfPeriod
  | 5#16 => some (rampPhaseValue s.rampPhase)
  | 6#16 => some s.nextEventTime
  | _ => none

end Sys2Proof.Machine
end

