-- ==== Sys2Proof/Machine/Flags.lean ====
section
/-!
DEFINITION. Derived values and tests: the queue's count, fullness and emptiness (10_state R118, 42_queue R503), the handler's
deadline test (40_generator R423), the ramp's midpoint test (41_ramp R483), the cutter's and the controller's states
(43_cutter R555, 44_controller R600).
-/

namespace Sys2Proof.Machine

/-- `count = (writeIndex − readIndex) mod N` (R118, R503). -/
def queueCount (s : State) : Nat :=
  (((s.writeIndex : Int) - (s.readIndex : Int)) % (s.cfg.queueCapacity : Int)).toNat

/-- `free = N − count` (R118), an integer so that no case is cut off at 0. -/
def queueFree (s : State) : Int := (s.cfg.queueCapacity : Int) - (queueCount s : Int)

/-- `isFull := (N − count) < H` (R503). -/
def isFull (s : State) : Bool := decide (queueFree s < (s.cfg.queueHeadroom : Int))

/-- `isEmpty := (writeIndex == readIndex)` (R503). -/
def isEmpty (s : State) : Bool := decide (s.writeIndex = s.readIndex)

/-- `passed := sdiff32(now, nextEventTime) ≥ 0` (R423). -/
def deadlinePassed (s : State) : Bool := decide (0 ≤ sdiff32 s.now s.nextEventTime)

/-- `crossed`, the direction-aware comparison of R483. -/
def midpointCrossed (s : State) : Bool :=
  match s.direction with
  | .forward => decide (s32 s.rampMidpoint ≤ s32 s.position)
  | .reverse => decide (s32 s.position ≤ s32 s.rampMidpoint)

/-- The cutter is UP when `currentTarget == CUTTER_UP_POS`, and DOWN otherwise (R555). -/
def cutterIsUp (s : State) : Bool := decide (s.currentTarget = s.cfg.cutterUpPos)

/-- The position opposite the present one, where `toggle` moves to (R554, R605). -/
def cutterOpposite (s : State) : BitVec 16 :=
  if cutterIsUp s then s.cfg.cutterDownPos else s.cfg.cutterUpPos

/-- The controller is MOVING when `active`, else IDLE (R600). -/
def controllerMoving (s : State) : Bool := s.active

end Sys2Proof.Machine
end

