-- ==== Sys2Proof/Machine/Ops.lean ====
section
/-!
DEFINITION. The named operations over the state (00_scope R18): slot and ramp-table access, events, responses, raising a model
fault, entering and leaving the timer interrupt, the TICK step, and the choice of the next agent's step (60_exceptions R712).
-/

namespace Sys2Proof.Machine

/-! ## The slot space (20_memory R200, R204) -/

/-- The word of one slot. -/
def Memory.read : Memory → Nat → Word
  | [], _ => Memory.unlisted
  | (k, v) :: m, i => if k = i then v else Memory.read m i

/-- The memory with one slot written, in canonical form. -/
def Memory.write : Memory → Nat → Word → Memory
  | [], i, w => if w = Memory.unlisted then [] else [(i, w)]
  | (k, v) :: m, i, w =>
    if i < k then (if w = Memory.unlisted then (k, v) :: m else (i, w) :: (k, v) :: m)
    else if i = k then (if w = Memory.unlisted then m else (i, w) :: m)
    else (k, v) :: Memory.write m i w

/-- A queue index as a slot number: "masked to capacity" (R117). -/
def slotOf (s : State) (i : Nat) : Nat := i % s.cfg.queueCapacity

/-- `SlotRead(i)` (R18). -/
def slotRead (s : State) (i : Nat) : Word := Memory.read s.slots (slotOf s i)

/-- `SlotWrite(i, w)` (R18). -/
def slotWrite (i : Nat) (w : Word) (s : State) : State :=
  { s with slots := Memory.write s.slots (slotOf s i) w }

/-! ## The ramp table (20_memory R200) -/

/-- `RampTableRead(i)` (R18). An index past the end, which no rule produces (R488), reads the last entry: DESIGN CHOICE (log 13). -/
def rampTableRead (c : Config) (i : Nat) : BitVec 16 :=
  c.rampTable.getD (min i (c.rampTable.length - 1)) 0#16

/-! ## Events, responses and faults -/

/-- `emit E`: the event, stamped with `now`, joins the trace (R18, R131). -/
def emit (e : Event) (s : State) : State :=
  { s with trace := s.trace ++ [{ event := e, time := s.now }] }

/-- The current request is completed with this response word. -/
def respondWord (w : Word) (s : State) : State :=
  { s with responses := s.responses ++ [w] }

/-- `respond(code, value)` (R18). -/
def respond (code : ResultCode) (value : BitVec 32) (s : State) : State :=
  respondWord (responseWord code value) s

/-- `raise Fault(reason)`: the reason joins the sticky set `faults` (R18, R130, R703). What the same step did before it stands
(log 8), and no later step exists. -/
def raiseFault (f : Fault) (s : State) : State :=
  if f ∈ s.faults then s else { s with faults := s.faults ++ [f] }

/-! ## The timer interrupt (60_exceptions R710 to R714) -/

/-- Interrupt entry: `irqPending <- false`. It saves nothing and switches no mode, mask or stack (R713). -/
def enterInterrupt (s : State) : State := { s with irqPending := false }

/-- `arm(r)`, interrupt return: `timerDeadline <- u32(now + r)`. It restores nothing (R714). -/
def armTimer (r : Int) (s : State) : State := { s with timerDeadline := s.now + u32 r }

/-- The TICK step (R131). -/
def tick (s : State) : State :=
  let n := s.now + 1#32
  { s with
    now := n
    irqPending := decide (n = s.timerDeadline) || s.irqPending
    settleRemaining :=
      if s.fgMode = .settling ∧ s.settleRemaining ≠ 0#32 then s.settleRemaining - 1#32
      else s.settleRemaining }

/-! ## Scheduling (R712) -/

/-- FG's enabled step, if it has one (R551, R712): in Ready the HOST's next request, in Settling `SettleEnd` at 0. -/
def fgAction (s : State) : Option Action :=
  match s.fgMode with
  | .ready => s.requests.head?.map Action.takeRequest
  | .settling => if s.settleRemaining = 0#32 then some .settleEnd else none

/-- The step taken when the scheduler names an agent: that agent's, if it is enabled, else TICK's, which always is (R712). -/
def agentAction (a : Agent) (s : State) : Action :=
  match a with
  | .fg => (fgAction s).getD .tick
  | .isr => if s.irqPending then .isr else .tick
  | .tick => .tick

/-- The agent named at the end of block n. FG, the ISR and TICK have their turns in rotation, so each is named again and again:
with the free part of a block before it, this is R712's weak fairness and nothing more (log 5). -/
def turnAgent (n : Nat) : Agent :=
  match n % 3 with
  | 0 => .fg
  | 1 => .isr
  | _ => .tick

/-- The agents to be named next: the rest of `schedule`, or the next block. It is never empty. -/
def upcoming (s : State) : List Agent :=
  match s.schedule with
  | [] => Config.freeBlock s.turns ++ [turnAgent s.turns]
  | a :: rest => a :: rest

/-- The agent the scheduler names. -/
def nextAgent (s : State) : Agent := (upcoming s).headD .tick

/-- The scheduler's choice is used up. -/
def advanceSchedule (s : State) : State :=
  { s with
    schedule := (upcoming s).tail
    turns := if s.schedule.isEmpty then s.turns + 1 else s.turns }

/-- The request FG takes leaves the HOST's list (R300). -/
def dropRequest (s : State) : State := { s with requests := s.requests.tail }

/-- `SettleEnd` (R551): FG is Ready again and gives the held response. -/
def settleEnd (s : State) : State := respondWord s.held { s with fgMode := .ready }

end Sys2Proof.Machine
end

