-- ==== Sys2Proof/Machine/Cutter.lean ====
section
/-!
DEFINITION. CutterActuator (43_cutter.md): the move primitive with its settle delay (R550) and the meanings of CUTUP, CUTDN and
CUTTG. The settle delay ends in `settleEnd` (R551).
-/

namespace Sys2Proof.Machine

/-- `CutterMove(p, s)` (R550): the servo is commanded; the held response is given at once when `settleMs` is 0, else FG settles. -/
def cutterMove (p : BitVec 16) (settleMs : BitVec 16) (s : State) : State :=
  let s1 := emit (.servo p) { s with currentTarget := p, servo := p }
  if settleMs = 0#16 then respondWord s1.held s1
  else { s1 with settleRemaining := u32 (settleTicks s.cfg settleMs), fgMode := .settling }

/-- `held <- (code, value)` (R550, R601). -/
def holdResponse (code : ResultCode) (value : BitVec 32) (s : State) : State :=
  { s with held := responseWord code value }

/-- CUTUP (R552). -/
def execCutup (settleMs : BitVec 16) (s : State) : Host.Outcome State Fault Refusal :=
  .next (cutterMove s.cfg.cutterUpPos settleMs (holdResponse .ok 0#32 s))

/-- CUTDN (R553). -/
def execCutdn (settleMs : BitVec 16) (s : State) : Host.Outcome State Fault Refusal :=
  .next (cutterMove s.cfg.cutterDownPos settleMs (holdResponse .ok 0#32 s))

/-- CUTTG (R554): the test reads `currentTarget` when the operation runs. -/
def execCuttg (settleMs : BitVec 16) (s : State) : Host.Outcome State Fault Refusal :=
  .next (cutterMove (cutterOpposite s) settleMs (holdResponse .ok 0#32 s))

end Sys2Proof.Machine
end

