-- ==== Sys2Proof/Machine/Ramp.lean ====
section
/-!
DEFINITION. The ramp sub-algorithm (41_ramp.md): initialisation at START (R481) and the ramp advance of a falling edge (R483 to
R488).
-/

namespace Sys2Proof.Machine

/-- `RampInit(δ)` (R481), called after `target` and `targetHalfPeriod` are written. -/
def rampInit (δ : Int) (s : State) : State :=
  let hp := u32 (rampSlowest s.cfg s.targetHalfPeriod)
  { s with
    rampStartPosition := s.position
    rampIndex := 0
    rampIterCount := rampTableRead s.cfg 0
    rampPhase := .accel
    halfPeriod := hp
    rampMidpoint :=
      if hp = s.targetHalfPeriod then s.target else u32 (s32 s.position + truncDiv δ 2) }

/-- The recomputed midpoint `target − (position − rampStartPosition)` (R484), exact, then a 32-bit register's pattern (log 12). -/
def recomputedMidpoint (s : State) : BitVec 32 :=
  u32 (s32 s.target - (s32 s.position - s32 s.rampStartPosition))

/-- The phase transition of R483. -/
def rampTransition (s : State) : State :=
  if s.rampPhase = .accel ∧ midpointCrossed s then { s with rampPhase := .decel } else s

/-- The ACCEL adjustment of R485, with the midpoint recomputation of R484. -/
def rampAccelAdjust (s : State) : State :=
  if s.targetHalfPeriod < s.halfPeriod then
    let hp := s.halfPeriod - 1#32
    { s with
      halfPeriod := hp
      rampIndex := min (s.rampIndex + 1) (s.cfg.rampTable.length - 1)
      rampMidpoint := if hp = s.targetHalfPeriod then recomputedMidpoint s else s.rampMidpoint }
  else s

/-- The DECEL adjustment of R486. -/
def rampDecelAdjust (s : State) : State :=
  if s.halfPeriod.toNat < rampSlowest s.cfg s.targetHalfPeriod then
    { s with
      halfPeriod := s.halfPeriod + 1#32
      rampIndex := s.rampIndex - 1 }
  else s

/-- The adjustment of the present phase, then the reload from the index it has just written (R487). -/
def rampAdjustAndReload (s : State) : State :=
  let s' := if s.rampPhase = .accel then rampAccelAdjust s else rampDecelAdjust s
  { s' with rampIterCount := rampTableRead s'.cfg s'.rampIndex }

/-- `if rampIterCount > 0: rampIterCount <- rampIterCount − 1` (R487). -/
def oneRepeatLess (n : BitVec 16) : BitVec 16 := if n = 0#16 then 0#16 else n - 1#16

/-- The countdown of R487: one repeat less, and at 0 the adjustment and reload. -/
def rampCountdown (s : State) : State :=
  let s' := { s with rampIterCount := oneRepeatLess s.rampIterCount }
  if oneRepeatLess s.rampIterCount = 0#16 then rampAdjustAndReload s' else s'

/-- `RampAdvance()` (R488): the phase transition, then the countdown. -/
def rampAdvance (s : State) : State := rampCountdown (rampTransition s)

end Sys2Proof.Machine
end

