-- ==== Sys2Proof/Machine/Generator.lean ====
section
/-!
DEFINITION. StepPulseGenerator (40_generator.md): START, STOP, ISACTIVE and the timer interrupt handler TIMER_EVENT.
-/

namespace Sys2Proof.Machine

/-! ## START (R410 to R416) -/

/-- The direction a non-zero displacement gives (R412). -/
def directionOf (δ : Int) : Direction := if 0 < δ then .forward else .reverse

/-- `direction <- …; DIR <- …; emit Dir(DIR)` (R412). -/
def setDirection (d : Direction) (s : State) : State :=
  emit (.dir (decide (d = .forward))) { s with direction := d, dirOut := decide (d = .forward) }

/-- The half-period part of START (R415): the ramp's start, or the plain cruise half-period. -/
def setSpeed (δ : Int) (hp : BitVec 32) (s : State) : State :=
  let s' := { s with targetHalfPeriod := hp }
  if s.cfg.rampEnabled then rampInit δ s' else { s' with halfPeriod := hp, rampPhase := .none }

/-- START's writes for an accepted move to target `t`, `active` last (R206, R415). -/
def acceptMove (d : BitVec 16) (δ : Int) (t : Int) (s : State) : State :=
  let s1 := setDirection (directionOf δ) { s with target := u32 t }
  let s2 := setSpeed δ (u32 (halfPeriodFor s.cfg d δ)) s1
  { s2 with pulsePhase := false, active := true }

/-- `StartBody` (R415, R602): the state, and the response that `START` gives and a dispatch discards. There is no response when a
fault is raised (R703). -/
def startBody (d : BitVec 16) (deltaSteps : BitVec 32) (s : State) : State × Option (ResultCode × BitVec 32) :=
  let δ := s32 deltaSteps
  let t := s32 s.position + δ
  if s.active then (emit (.log .moveRejected) s, some (.moveRejected, 0#32))
  else if δ = 0 then (s, some (.ok, 0#32))
  else if fitsS32 t then (acceptMove d δ t s, some (.ok, 0#32))
  else (raiseFault .positionOverflow s, none)

/-- START's response is given, if it has one. -/
def respondOption (r : State × Option (ResultCode × BitVec 32)) : State :=
  match r.2 with
  | some (code, value) => respond code value r.1
  | none => r.1

/-- START (R415). -/
def execStart (durationMs : BitVec 16) (deltaSteps : BitVec 32) (s : State) : Host.Outcome State Fault Refusal :=
  .next (respondOption (startBody durationMs deltaSteps s))

/-! ## STOP and ISACTIVE (R417, R419) -/

/-- The soft stop: `if active: target <- position` (R417), atomic (R205). -/
def softStop (s : State) : State := if s.active then { s with target := s.position } else s

/-- STOP (R417). -/
def execStop (s : State) : Host.Outcome State Fault Refusal :=
  .next (respond .ok 0#32 (softStop s))

/-- ISACTIVE (R419). -/
def execIsactive (s : State) : Host.Outcome State Fault Refusal :=
  .next (respond .ok (boolValue s.active) s)

/-! ## TIMER_EVENT (R420 to R430): a body answers the state and the re-arm interval -/

/-- `rampPhase <- NONE; rampIndex <- 0; rampIterCount <- 0` (R427, R428). -/
def clearRamp (s : State) : State :=
  { s with rampPhase := .none, rampIndex := 0, rampIterCount := 0#16 }

/-- `nextEventTime <- u32(now + IDLE_INTERVAL)` and the return of IDLE_INTERVAL (R421, R427, R428). -/
def returnIdle (s : State) : State × Int :=
  ({ s with nextEventTime := s.now + u32 s.cfg.idleInterval }, s.cfg.idleInterval)

/-- `Complete()` and the return of IDLE_INTERVAL (R427). -/
def completeMove (s : State) : State × Int :=
  let r := returnIdle (clearRamp { s with active := false, pulsePhase := false })
  (emit .complete r.1, r.2)

/-- `STEP <- 0; emit StepFall; pulsePhase <- false` (R425, R428). -/
def lowerStep (s : State) : State :=
  { emit .stepFall { s with stepOut := false } with pulsePhase := false }

/-- `Disarm()` and the return of IDLE_INTERVAL (R422, R428). -/
def disarm (s : State) : State × Int :=
  let s1 := if s.pulsePhase then lowerStep s else s
  let r := returnIdle (clearRamp { s1 with active := false })
  (emit .disarmed r.1, r.2)

/-- `nextEventTime <- u32(nextEventTime + halfPeriod)` (R424, R425). -/
def accumulateDeadline (s : State) : State := { s with nextEventTime := s.nextEventTime + s.halfPeriod }

/-- The return of R429: the ticks remaining, or a restart one tick from `now` when the deadline is not ahead. -/
def returnRemaining (s : State) : State × Int :=
  let r := sdiff32 s.nextEventTime s.now
  if r < 1 then ({ s with nextEventTime := s.now + 1#32 }, 1) else (s, r)

/-- `position` one microstep toward `target`; the sign comes from `target − position` (R424). -/
def stepToward (position target : BitVec 32) : BitVec 32 :=
  if s32 position < s32 target then position + 1#32 else position - 1#32

/-- The rising edge (R424). -/
def risingEdge (s : State) : State :=
  let s1 := emit .stepRise { s with stepOut := true }
  let s2 := accumulateDeadline { s1 with position := stepToward s.position s.target }
  { s2 with pulsePhase := true }

/-- The falling edge (R425), with its completion or its ramp advance. -/
def fallingEdge (s : State) : State × Int :=
  let s1 := lowerStep s
  if s1.position = s1.target then completeMove s1
  else
    let s2 := if s1.rampPhase = .none then s1 else rampAdvance s1
    returnRemaining (accumulateDeadline s2)

/-- The handler's body (R421 to R429). -/
def handlerBody (s : State) : State × Int :=
  if s.active = false then returnIdle s
  else if s.halfPeriod = 0#32 then disarm s
  else if s.pulsePhase = true ∧ deadlinePassed s = true then fallingEdge s
  else if s.pulsePhase = false ∧ s.position ≠ s.target then returnRemaining (risingEdge s)
  else if s.pulsePhase = false then completeMove s
  else returnRemaining s

/-- TIMER_EVENT (R420, R430): entry, the body, and the return that arms the timer. -/
def execTimerEvent (s : State) : Host.Outcome State Fault Refusal :=
  let r := handlerBody (enterInterrupt s)
  .next (armTimer r.2 r.1)

end Sys2Proof.Machine
end

