-- ==== Sys2Proof/WellFormed.lean ====
section
/-!
DEFINITION. Well-formed operations: the operand constraints that the operand types do not already carry. The one such
constraint of the spec is the register index of RDREG, 0..6 (30_encoding R305, R307, R322).
-/

namespace Sys2Proof

/-- The operand constraints of 30_encoding R305 and R307. -/
def Instr.wellFormed : Instr → Bool
  | .qmove _ _ => true
  | .qcutup _ => true
  | .qcutdn _ => true
  | .qcuttg _ => true
  | .qfull => true
  | .qempty => true
  | .poll => true
  | .stopall => true
  | .stop => true
  | .start _ _ => true
  | .isactive => true
  | .moton => true
  | .motoff => true
  | .mottg => true
  | .cutup _ => true
  | .cutdn _ => true
  | .cuttg _ => true
  | .rdreg k => decide (k.toNat ≤ 6)
  | .eMove _ _ => true
  | .eCutup _ => true
  | .eCutdn _ => true
  | .eCuttg _ => true
  | .timerEvent => true

end Sys2Proof
end

