-- ==== Sys2Proof/Decode.lean ====
section
/-!
DEFINITION. Decoding and encoding: the fields of a word (30_encoding R301), legality (R307), the decoder of the request space
(R304, total on all 2^64 words), of the queue-entry space (R311) and of the event space (R315), the encoder, and the byte order
of a word carried over a byte channel (20_memory R201).
-/

namespace Sys2Proof

/-! ## Fields (R301) -/

/-- `OP`, bits 63:56. -/
def opField (w : Word) : BitVec 8 := w.extractLsb' 56 8

/-- `RSV`, bits 55:48. -/
def rsvField (w : Word) : BitVec 8 := w.extractLsb' 48 8

/-- `IMM16`, bits 47:32. -/
def imm16Field (w : Word) : BitVec 16 := w.extractLsb' 32 16

/-- `IMM32`, bits 31:0. -/
def imm32Field (w : Word) : BitVec 32 := w.extractLsb' 0 32

/-- The word of an OP and its operands, RSV being 0 (R301). -/
def packWord (op : BitVec 8) (imm16 : BitVec 16) (imm32 : BitVec 32) : Word :=
  op ++ 0#8 ++ imm16 ++ imm32

/-! ## Legality (R304, R305, R307) -/

/-- The format of an OP of R304; `none` for an OP that R304 does not list. -/
def formatOf (op : BitVec 8) : Option Format :=
  if op = 0x01#8 ∨ op = 0x22#8 then some .M
  else if op = 0x02#8 ∨ op = 0x03#8 ∨ op = 0x04#8 ∨ op = 0x40#8 ∨ op = 0x41#8 ∨ op = 0x42#8 then some .S
  else if op = 0x50#8 then some .X
  else if op = 0x05#8 ∨ op = 0x06#8 ∨ op = 0x10#8 ∨ op = 0x20#8 ∨ op = 0x21#8 ∨ op = 0x23#8 ∨
      op = 0x30#8 ∨ op = 0x31#8 ∨ op = 0x32#8 then some .Z
  else none

/-- `Legal(w)` of R307: a listed OP, RSV = 0, the fields R305 says must be 0 are 0, and an index of at most 6 for RDREG. -/
def Legal (w : Word) : Prop :=
  ∃ f, formatOf (opField w) = some f ∧ rsvField w = 0#8 ∧
    (f ≠ .M → imm32Field w = 0#32) ∧
    (f = .Z → imm16Field w = 0#16) ∧
    (f = .X → (imm16Field w).toNat ≤ 6)

/-! ## The decoder of the request space -/

/-- Format M: no further condition on the operands (R305). -/
def decodeM (mk : BitVec 16 → BitVec 32 → Instr) (w : Word) : Except Reject Instr :=
  .ok (mk (imm16Field w) (imm32Field w))

/-- Format S: IMM32 must be 0 (R305). -/
def decodeS (mk : BitVec 16 → Instr) (w : Word) : Except Reject Instr :=
  if imm32Field w = 0#32 then .ok (mk (imm16Field w)) else .error .imm32Nonzero

/-- Format Z: IMM16 and IMM32 must be 0 (R305). -/
def decodeZ (i : Instr) (w : Word) : Except Reject Instr :=
  if imm16Field w = 0#16 then
    if imm32Field w = 0#32 then .ok i else .error .imm32Nonzero
  else .error .imm16Nonzero

/-- Format X: IMM32 must be 0 and the register index at most 6 (R305, R307). -/
def decodeX (mk : BitVec 16 → Instr) (w : Word) : Except Reject Instr :=
  if imm32Field w = 0#32 then
    if (imm16Field w).toNat ≤ 6 then .ok (mk (imm16Field w)) else .error .indexOutOfRange
  else .error .imm32Nonzero

/-- The opcode map of R304, for a word whose RSV is 0. -/
def decodeOp (w : Word) : Except Reject Instr :=
  match opField w with
  | 0x01#8 => decodeM .qmove w
  | 0x02#8 => decodeS .qcutup w
  | 0x03#8 => decodeS .qcutdn w
  | 0x04#8 => decodeS .qcuttg w
  | 0x05#8 => decodeZ .qfull w
  | 0x06#8 => decodeZ .qempty w
  | 0x10#8 => decodeZ .poll w
  | 0x20#8 => decodeZ .stopall w
  | 0x21#8 => decodeZ .stop w
  | 0x22#8 => decodeM .start w
  | 0x23#8 => decodeZ .isactive w
  | 0x30#8 => decodeZ .moton w
  | 0x31#8 => decodeZ .motoff w
  | 0x32#8 => decodeZ .mottg w
  | 0x40#8 => decodeS .cutup w
  | 0x41#8 => decodeS .cutdn w
  | 0x42#8 => decodeS .cuttg w
  | 0x50#8 => decodeX .rdreg w
  | _ => .error .unknownOp

/-- `Decode` of R307: total on all words; a word that is not legal is rejected under the name of the clause it breaks. -/
def decodeRequest (w : Word) : Except Reject Instr :=
  if rsvField w = 0#8 then decodeOp w else .error .reservedNonzero

/-! ## The queue-entry and event spaces -/

/-- The entry kinds of R311. Dispatch tests the kind field alone (44_controller R602 to R606), so a word's other fields do not
decide whether it is an entry. DEDUCED (log 10), safe: no rule writes a slot with a word in which this could matter. -/
def decodeEntry (w : Word) : Option Instr :=
  match opField w with
  | 0x01#8 => some (.eMove (imm16Field w) (imm32Field w))
  | 0x02#8 => some (.eCutup (imm16Field w))
  | 0x03#8 => some (.eCutdn (imm16Field w))
  | 0x04#8 => some (.eCuttg (imm16Field w))
  | _ => none

/-- The event space of R315: event number 0 is TIMER_EVENT. -/
def decodeEvent (n : Nat) : Option Instr :=
  if n = 0 then some .timerEvent else none

/-! ## The encoder -/

/-- The word of an operation: the request word (R304, R306) or, in the queue-entry space, the entry word (R310, R311). The timer
event has no word (R315). -/
def encode : Instr → Option Word
  | .qmove d n => some (packWord 0x01#8 d n)
  | .qcutup s => some (packWord 0x02#8 s 0#32)
  | .qcutdn s => some (packWord 0x03#8 s 0#32)
  | .qcuttg s => some (packWord 0x04#8 s 0#32)
  | .qfull => some (packWord 0x05#8 0#16 0#32)
  | .qempty => some (packWord 0x06#8 0#16 0#32)
  | .poll => some (packWord 0x10#8 0#16 0#32)
  | .stopall => some (packWord 0x20#8 0#16 0#32)
  | .stop => some (packWord 0x21#8 0#16 0#32)
  | .start d n => some (packWord 0x22#8 d n)
  | .isactive => some (packWord 0x23#8 0#16 0#32)
  | .moton => some (packWord 0x30#8 0#16 0#32)
  | .motoff => some (packWord 0x31#8 0#16 0#32)
  | .mottg => some (packWord 0x32#8 0#16 0#32)
  | .cutup s => some (packWord 0x40#8 s 0#32)
  | .cutdn s => some (packWord 0x41#8 s 0#32)
  | .cuttg s => some (packWord 0x42#8 s 0#32)
  | .rdreg k => some (packWord 0x50#8 k 0#32)
  | .eMove d n => some (packWord 0x01#8 d n)
  | .eCutup s => some (packWord 0x02#8 s 0#32)
  | .eCutdn s => some (packWord 0x03#8 s 0#32)
  | .eCuttg s => some (packWord 0x04#8 s 0#32)
  | .timerEvent => none

/-! ## Words over a byte channel (R201) -/

/-- The eight bytes of a word in the order they are sent: least significant byte first (R201). -/
def bytesOfWord (w : Word) : List Byte :=
  [w.extractLsb' 0 8, w.extractLsb' 8 8, w.extractLsb' 16 8, w.extractLsb' 24 8,
   w.extractLsb' 32 8, w.extractLsb' 40 8, w.extractLsb' 48 8, w.extractLsb' 56 8]

/-- The word that eight bytes received in order carry (R201); `none` for any other number of bytes. -/
def wordOfBytes : List Byte → Option Word
  | [b0, b1, b2, b3, b4, b5, b6, b7] => some (b7 ++ b6 ++ b5 ++ b4 ++ b3 ++ b2 ++ b1 ++ b0)
  | _ => none

/-! ## The opcode table's numbering -/

/-- The operation a row's bits spell. A row of the request or queue-entry space is a 64-bit word carried as R201 says; the
one row of fewer bits is the event space's, whose number is the event (R315). An entry word and the request word that pushed it
are the same bits (R310), so here they read as the request. DESIGN CHOICE (log 9), safe. -/
def decodeTableWord (nbits w : Nat) : Option Instr :=
  if nbits ≤ 8 then decodeEvent w
  else
    match wordOfBytes (bytesOfWord (BitVec.ofNat 64 w)) with
    | some word => (decodeRequest word).toOption
    | none => none

end Sys2Proof
end

