-- ==== Sys2Proof/Machine/Queue.lean ====
section
/-!
DEFINITION. CommandQueue (42_queue.md): the primitives Push, Pop and Clear, and the meanings of QMOVE, QCUTUP, QCUTDN, QCUTTG,
QFULL and QEMPTY.
-/

namespace Sys2Proof.Machine

/-- An index one step on, mod N (R117, R501, R502). -/
def nextIndex (s : State) (i : Nat) : Nat := (i + 1) % s.cfg.queueCapacity

/-- `Push(w)` (R501): the state after it and its result. A refused push writes nothing. -/
def push (w : Word) (s : State) : State × ResultCode :=
  if isFull s then (s, .queueFull)
  else
    let s' := slotWrite s.writeIndex w s
    ({ s' with writeIndex := nextIndex s s.writeIndex }, .ok)

/-- `Pop()` (R502): nothing from an empty queue, else the entry at `readIndex`, which advances. -/
def pop (s : State) : Option (Word × State) :=
  if isEmpty s then none
  else some (slotRead s s.readIndex, { s with readIndex := nextIndex s s.readIndex })

/-- `Clear()` (R505): both indices to 0; the slots keep their contents. -/
def clearQueue (s : State) : State := { s with writeIndex := 0, readIndex := 0 }

/-- A queue request (R510 to R513): `respond(Push(w), 0)`, where `w` is the request word itself (R310). -/
def pushRequest (w : Word) (s : State) : State :=
  let r := push w s
  respond r.2 0#32 r.1

/-- QMOVE (R510). -/
def execQmove (durationMs : BitVec 16) (deltaSteps : BitVec 32) (s : State) : Host.Outcome State Fault Refusal :=
  .next (pushRequest (packWord 0x01#8 durationMs deltaSteps) s)

/-- QCUTUP (R511). -/
def execQcutup (settleMs : BitVec 16) (s : State) : Host.Outcome State Fault Refusal :=
  .next (pushRequest (packWord 0x02#8 settleMs 0#32) s)

/-- QCUTDN (R512). -/
def execQcutdn (settleMs : BitVec 16) (s : State) : Host.Outcome State Fault Refusal :=
  .next (pushRequest (packWord 0x03#8 settleMs 0#32) s)

/-- QCUTTG (R513). -/
def execQcuttg (settleMs : BitVec 16) (s : State) : Host.Outcome State Fault Refusal :=
  .next (pushRequest (packWord 0x04#8 settleMs 0#32) s)

/-- QFULL (R514). -/
def execQfull (s : State) : Host.Outcome State Fault Refusal :=
  .next (respond .ok (boolValue (isFull s)) s)

/-- QEMPTY (R515). -/
def execQempty (s : State) : Host.Outcome State Fault Refusal :=
  .next (respond .ok (boolValue (isEmpty s)) s)

end Sys2Proof.Machine
end

