-- ==== Sys2Proof/Machine/Controller.lean ====
section
/-!
DEFINITION. MotionController (44_controller.md): the dispatch of a queue entry (E_MOVE, E_CUTUP, E_CUTDN, E_CUTTG), POLL, STOPALL,
MOTON, MOTOFF, MOTTG and RDREG, and the answer to an illegal request (30_encoding R308).
-/

namespace Sys2Proof.Machine

/-! ## Queue entries (R602 to R606): each gives POLL's `held` response -/

/-- E_MOVE (R602): `StartBody`, its own response discarded, then `respond(held)`. No response follows a fault (R703). -/
def execEMove (durationMs : BitVec 16) (deltaSteps : BitVec 32) (s : State) : Host.Outcome State Fault Refusal :=
  let r := startBody durationMs deltaSteps s
  .next (if r.2.isSome then respondWord r.1.held r.1 else r.1)

/-- E_CUTUP (R603). -/
def execECutup (settleMs : BitVec 16) (s : State) : Host.Outcome State Fault Refusal :=
  .next (cutterMove s.cfg.cutterUpPos settleMs s)

/-- E_CUTDN (R604). -/
def execECutdn (settleMs : BitVec 16) (s : State) : Host.Outcome State Fault Refusal :=
  .next (cutterMove s.cfg.cutterDownPos settleMs s)

/-- E_CUTTG (R605): the direction comes from `currentTarget` at dispatch. -/
def execECuttg (settleMs : BitVec 16) (s : State) : Host.Outcome State Fault Refusal :=
  .next (cutterMove (cutterOpposite s) settleMs s)

/-- `Dispatch(e)` (R602 to R606): by the kind alone; an unknown kind raises `BadQueueEntry`. -/
def dispatchEntry (e : Word) (s : State) : Host.Outcome State Fault Refusal :=
  match opField e with
  | 0x01#8 => execEMove (imm16Field e) (imm32Field e) s
  | 0x02#8 => execECutup (imm16Field e) s
  | 0x03#8 => execECutdn (imm16Field e) s
  | 0x04#8 => execECuttg (imm16Field e) s
  | _ => .next (raiseFault .badQueueEntry s)

/-! ## POLL (R601) -/

/-- POLL (R601): busy, or one entry popped and dispatched with the fullness after the pop as its held response. -/
def execPoll (s : State) : Host.Outcome State Fault Refusal :=
  if s.active then .next (respond .ok 1#32 s)
  else
    match pop s with
    | none => .next (respond .ok (boolValue (isFull s)) s)
    | some (e, s') => dispatchEntry e (holdResponse .ok (boolValue (isFull s')) s')

/-! ## Immediate operations (R607 to R610) -/

/-- STOPALL (R607): the clear and the soft stop in one atomic step. -/
def execStopall (s : State) : Host.Outcome State Fault Refusal :=
  .next (respond .ok 0#32 (softStop (clearQueue s)))

/-- `ENABLE <- level; emit Enable(level)` (R608 to R610). -/
def setEnable (level : Bool) (s : State) : State :=
  emit (.enable level) { s with enableOut := level }

/-- MOTON (R608). -/
def execMoton (s : State) : Host.Outcome State Fault Refusal :=
  .next (respond .ok 0#32 (setEnable true s))

/-- MOTOFF (R609). -/
def execMotoff (s : State) : Host.Outcome State Fault Refusal :=
  .next (respond .ok 0#32 (setEnable false s))

/-- MOTTG (R610). -/
def execMottg (s : State) : Host.Outcome State Fault Refusal :=
  .next (respond .ok 0#32 (setEnable (!s.enableOut) s))

/-! ## Status (R611) and illegal requests (R308) -/

/-- `respond(ILLEGAL_REQUEST, 0)`, changing nothing else and emitting nothing (R308, R704). -/
def illegalRequest (s : State) : Host.Outcome State Fault Refusal :=
  .next (respond .illegalRequest 0#32 s)

/-- RDREG (R611). An index R322 does not list is an illegal request (R307), which the decoder already answers so. -/
def execRdreg (index : BitVec 16) (s : State) : Host.Outcome State Fault Refusal :=
  match registerValue index s with
  | some v => .next (respond .ok v s)
  | none => illegalRequest s

end Sys2Proof.Machine
end

