-- ==== Sys2Proof/Machine/Dispatch.lean ====
section
/-!
DEFINITION. The meaning of every operation: one arm per constructor of Instr.
-/

namespace Sys2Proof.Machine

def exec (i : Instr) (s : State) : Host.Outcome State Fault Refusal :=
  match i with
  -- CommandQueue (42_queue.md)
  | .qmove d n => Sys2Proof.Machine.execQmove d n s
  | .qcutup m => Sys2Proof.Machine.execQcutup m s
  | .qcutdn m => Sys2Proof.Machine.execQcutdn m s
  | .qcuttg m => Sys2Proof.Machine.execQcuttg m s
  | .qfull => Sys2Proof.Machine.execQfull s
  | .qempty => Sys2Proof.Machine.execQempty s
  -- MotionController and StepPulseGenerator (44_controller.md, 40_generator.md)
  | .poll => Sys2Proof.Machine.execPoll s
  | .stopall => Sys2Proof.Machine.execStopall s
  | .stop => Sys2Proof.Machine.execStop s
  | .start d n => Sys2Proof.Machine.execStart d n s
  | .isactive => Sys2Proof.Machine.execIsactive s
  | .moton => Sys2Proof.Machine.execMoton s
  | .motoff => Sys2Proof.Machine.execMotoff s
  | .mottg => Sys2Proof.Machine.execMottg s
  -- CutterActuator (43_cutter.md)
  | .cutup m => Sys2Proof.Machine.execCutup m s
  | .cutdn m => Sys2Proof.Machine.execCutdn m s
  | .cuttg m => Sys2Proof.Machine.execCuttg m s
  -- Status (44_controller.md)
  | .rdreg k => Sys2Proof.Machine.execRdreg k s
  -- Queue entries, as POLL dispatches them (44_controller.md)
  | .eMove d n => Sys2Proof.Machine.execEMove d n s
  | .eCutup m => Sys2Proof.Machine.execECutup m s
  | .eCutdn m => Sys2Proof.Machine.execECutdn m s
  | .eCuttg m => Sys2Proof.Machine.execECuttg m s
  -- The timer interrupt (40_generator.md)
  | .timerEvent => Sys2Proof.Machine.execTimerEvent s

end Sys2Proof.Machine
end

