-- ==== Sys2Proof/Machine/Step.lean ====
section
/-!
DEFINITION. One step of the block (60_exceptions R712): the scheduler's agent takes its step. And placing a table row's word where
the next step takes it.
-/

namespace Sys2Proof.Machine

/-- A request taken from the HOST: the operation its word spells, or the answer to an illegal word (30_encoding R307, R308). -/
def performRequest (w : Word) (s : State) : Host.Outcome State Fault Refusal :=
  match decodeRequest w with
  | .ok i => exec i s
  | .error _ => illegalRequest s

/-- The step of the chosen agent. -/
def runAction (a : Action) (s : State) : Host.Outcome State Fault Refusal :=
  match a with
  | .takeRequest w => performRequest w (dropRequest s)
  | .settleEnd => .next (settleEnd s)
  | .isr => exec .timerEvent s
  | .tick => .next (tick s)

/-- One step. A configuration that breaks a constraint is refused (R13); with a fault recorded no agent has a step (R130, R703);
else the agent the scheduler names moves, or TICK where that agent has no enabled step (R712). -/
def step (s : State) : Host.Outcome State Fault Refusal :=
  if s.cfg.Valid then
    match s.faults with
    | f :: _ => .fault f
    | [] => runAction (agentAction (nextAgent s) s) (advanceSchedule s)
  else .refused .invalidConfiguration

/-- The state with the operation of these bits placed so that the very next step runs it: a request word at the head of the
HOST's list with FG Ready and named next, or the pending timer interrupt with the ISR named next (log 6, log 9). -/
def State.withFetchWord (s : State) (nbits w : Nat) : State :=
  if nbits ≤ 8 then
    { s with irqPending := true, faults := [], schedule := .isr :: s.schedule }
  else
    { s with
      requests := BitVec.ofNat 64 w :: s.requests
      fgMode := .ready
      faults := []
      schedule := .fg :: s.schedule }

end Sys2Proof.Machine
end

