-- ==== Sys2Proof/Machine/Assembler.lean ====
section
/-!
DEFINITION. The textual form of a request (30_encoding R330) and the pseudo-operations STATUS and QCUT (R331). A line is a list of
characters, and assembling it gives the request words it stands for, in order; an assembly error gives none.
-/

namespace Sys2Proof.Machine

/-! ## Pseudo-operations (R331) -/

/-- The word of `RDREG k` (R304, R322). -/
def rdregWord (k : BitVec 16) : Word := packWord 0x50#8 k 0#32

/-- `STATUS`: RDREG POS, TGT, ACT, HP, THP, RPH, NET, in that order. -/
def statusWords : List Word :=
  [rdregWord 0#16, rdregWord 1#16, rdregWord 2#16, rdregWord 3#16, rdregWord 4#16, rdregWord 5#16, rdregWord 6#16]

/-- `QCUT durationMs, deltaSteps, settleMs`: QMOVE, QCUTDN, QCUTUP, in that order. -/
def qcutWords (durationMs : BitVec 16) (deltaSteps : BitVec 32) (settleMs : BitVec 16) : List Word :=
  [packWord 0x01#8 durationMs deltaSteps, packWord 0x03#8 settleMs 0#32, packWord 0x02#8 settleMs 0#32]

/-! ## Literals (R330) -/

/-- The value of a digit in base 10 or 16. -/
def digitValue (base : Nat) (c : Char) : Option Nat :=
  let v :=
    if '0' ≤ c ∧ c ≤ '9' then some (c.toNat - '0'.toNat)
    else if 'a' ≤ c ∧ c ≤ 'f' then some (c.toNat - 'a'.toNat + 10)
    else if 'A' ≤ c ∧ c ≤ 'F' then some (c.toNat - 'A'.toNat + 10)
    else none
  match v with
  | some n => if n < base then some n else none
  | none => none

/-- Digits, most significant first, after the value read so far. -/
def digitsFrom (base acc : Nat) : List Char → Option Nat
  | [] => some acc
  | c :: cs =>
    match digitValue base c with
    | some n => digitsFrom base (acc * base + n) cs
    | none => none

/-- At least one decimal digit. -/
def decimal : List Char → Option Nat
  | [] => none
  | cs => digitsFrom 10 0 cs

/-- A literal without a sign: hexadecimal after `0x`, else decimal. -/
def unsignedLiteral : List Char → Option Nat
  | '0' :: 'x' :: [] => none
  | '0' :: 'x' :: cs => digitsFrom 16 0 cs
  | cs => decimal cs

/-- A literal for `deltaSteps`: a leading minus is allowed before decimal digits. -/
def signedLiteral : List Char → Option Int
  | '-' :: cs => (decimal cs).map fun n => -(n : Int)
  | cs => (unsignedLiteral cs).map fun n => (n : Int)

/-- `durationMs` or `settleMs`: outside 0..65535 it is an assembly error. -/
def operand16 (cs : List Char) : Option (BitVec 16) :=
  match unsignedLiteral cs with
  | some n => if n ≤ 65535 then some (BitVec.ofNat 16 n) else none
  | none => none

/-- `deltaSteps`: outside −2^31..2^31−1 it is an assembly error. -/
def operandDelta (cs : List Char) : Option (BitVec 32) :=
  match signedLiteral cs with
  | some x => if -(2 ^ 31) ≤ x ∧ x ≤ 2 ^ 31 - 1 then some (BitVec.ofInt 32 x) else none
  | none => none

/-- RDREG's operand: a register name of R322 or a decimal index 0..6. -/
def operandRegister (cs : List Char) : Option (BitVec 16) :=
  if cs = ['P', 'O', 'S'] then some 0#16
  else if cs = ['T', 'G', 'T'] then some 1#16
  else if cs = ['A', 'C', 'T'] then some 2#16
  else if cs = ['H', 'P'] then some 3#16
  else if cs = ['T', 'H', 'P'] then some 4#16
  else if cs = ['R', 'P', 'H'] then some 5#16
  else if cs = ['N', 'E', 'T'] then some 6#16
  else
    match decimal cs with
    | some n => if n ≤ 6 then some (BitVec.ofNat 16 n) else none
    | none => none

/-! ## Lines -/

/-- Space or tab (log 14). -/
def isBlank (c : Char) : Bool := c == ' ' || c == '\t'

/-- Everything before the `;` that starts a comment. -/
def beforeComment (cs : List Char) : List Char := cs.takeWhile (fun c => c != ';')

/-- Blanks removed at both ends. -/
def trim (cs : List Char) : List Char :=
  ((cs.dropWhile isBlank).reverse.dropWhile isBlank).reverse

/-- The parts of a text that commas separate. -/
def splitCommas : List Char → List (List Char)
  | [] => [[]]
  | c :: cs =>
    if c = ',' then [] :: splitCommas cs
    else
      match splitCommas cs with
      | [] => [[c]]
      | p :: ps => (c :: p) :: ps

/-- The operands after a mnemonic: none, or the trimmed parts between commas. -/
def operandTexts (cs : List Char) : List (List Char) :=
  if trim cs = [] then [] else (splitCommas cs).map trim

/-- Format M (R305): `durationMs, deltaSteps`. -/
def assembleM (op : BitVec 8) : List (List Char) → Option (List Word)
  | [d, n] =>
    match operand16 d, operandDelta n with
    | some d, some n => some [packWord op d n]
    | _, _ => none
  | _ => none

/-- Format S (R305): `settleMs`. -/
def assembleS (op : BitVec 8) : List (List Char) → Option (List Word)
  | [s] => (operand16 s).map fun s => [packWord op s 0#32]
  | _ => none

/-- Format X (R305): a register. -/
def assembleX : List (List Char) → Option (List Word)
  | [k] => (operandRegister k).map fun k => [rdregWord k]
  | _ => none

/-- Format Z (R305): no operand. -/
def assembleZ (op : BitVec 8) : List (List Char) → Option (List Word)
  | [] => some [packWord op 0#16 0#32]
  | _ => none

/-- QCUT (R331): `durationMs, deltaSteps, settleMs`. -/
def assembleQcut : List (List Char) → Option (List Word)
  | [d, n, s] =>
    match operand16 d, operandDelta n, operand16 s with
    | some d, some n, some s => some (qcutWords d n s)
    | _, _, _ => none
  | _ => none

/-- STATUS (R331): no operand. -/
def assembleStatus : List (List Char) → Option (List Word)
  | [] => some statusWords
  | _ => none

/-- A mnemonic of R304 or R331 with its operands. -/
def assembleMnemonic (m : List Char) (ops : List (List Char)) : Option (List Word) :=
  if m = ['Q', 'M', 'O', 'V', 'E'] then assembleM 0x01#8 ops
  else if m = ['S', 'T', 'A', 'R', 'T'] then assembleM 0x22#8 ops
  else if m = ['Q', 'C', 'U', 'T', 'U', 'P'] then assembleS 0x02#8 ops
  else if m = ['Q', 'C', 'U', 'T', 'D', 'N'] then assembleS 0x03#8 ops
  else if m = ['Q', 'C', 'U', 'T', 'T', 'G'] then assembleS 0x04#8 ops
  else if m = ['C', 'U', 'T', 'U', 'P'] then assembleS 0x40#8 ops
  else if m = ['C', 'U', 'T', 'D', 'N'] then assembleS 0x41#8 ops
  else if m = ['C', 'U', 'T', 'T', 'G'] then assembleS 0x42#8 ops
  else if m = ['R', 'D', 'R', 'E', 'G'] then assembleX ops
  else if m = ['Q', 'F', 'U', 'L', 'L'] then assembleZ 0x05#8 ops
  else if m = ['Q', 'E', 'M', 'P', 'T', 'Y'] then assembleZ 0x06#8 ops
  else if m = ['P', 'O', 'L', 'L'] then assembleZ 0x10#8 ops
  else if m = ['S', 'T', 'O', 'P', 'A', 'L', 'L'] then assembleZ 0x20#8 ops
  else if m = ['S', 'T', 'O', 'P'] then assembleZ 0x21#8 ops
  else if m = ['I', 'S', 'A', 'C', 'T', 'I', 'V', 'E'] then assembleZ 0x23#8 ops
  else if m = ['M', 'O', 'T', 'O', 'N'] then assembleZ 0x30#8 ops
  else if m = ['M', 'O', 'T', 'O', 'F', 'F'] then assembleZ 0x31#8 ops
  else if m = ['M', 'O', 'T', 'T', 'G'] then assembleZ 0x32#8 ops
  else if m = ['Q', 'C', 'U', 'T'] then assembleQcut ops
  else if m = ['S', 'T', 'A', 'T', 'U', 'S'] then assembleStatus ops
  else none

/-- One line of text (R330): "One request per line." A line of blanks and comment holds no request (log 14). -/
def assembleLine (line : List Char) : Option (List Word) :=
  let t := trim (beforeComment line)
  if t = [] then some []
  else assembleMnemonic (t.takeWhile (fun c => !isBlank c)) (operandTexts (t.dropWhile (fun c => !isBlank c)))

end Sys2Proof.Machine
end

