-- ==== Sys2Proof/Machine/Run.lean ====
section
/-!
DEFINITION. Runs of the block and weak fairness (60_exceptions R712): which agents have an enabled step, which agent takes the
step, what a run is, and when it is weakly fair.
-/

namespace Sys2Proof.Machine

/-- Whether an agent has an enabled step (R712): FG its request or `SettleEnd`, the ISR while `irqPending`, TICK always, and none of
them with a fault recorded (R130). -/
def enabled (a : Agent) (s : State) : Bool :=
  s.faults.isEmpty &&
    match a with
    | .fg => (fgAction s).isSome
    | .isr => s.irqPending
    | .tick => true

/-- The agent that takes the next step: the one the scheduler names, or TICK where that one has no enabled step (log 5). -/
def mover (s : State) : Agent := if enabled (nextAgent s) s then nextAgent s else .tick

/-- A run: a sequence of states, each the next state of the one before it (R712). It has no end, so no fault is recorded in it. -/
def IsRun (r : Nat → State) : Prop := ∀ n, step (r n) = .next (r (n + 1))

/-- "Weak fairness: every agent whose step stays enabled eventually takes it" (R712). -/
def WeaklyFair (r : Nat → State) : Prop :=
  ∀ (a : Agent) (n : Nat), (∀ m, n ≤ m → enabled a (r m) = true) → ∃ m, n ≤ m ∧ mover (r m) = a

/-- From some step on, the handler never finds a pending pulse whose deadline reads as not passed, which is what a latency of 2^31
ticks or more makes it read: "The case cannot be reached while the handler's latency stays below 2^31 ticks" (40_generator R426).
R842 leaves this premise out (log 21). -/
def HandlerInTime (r : Nat → State) : Prop :=
  ∃ N, ∀ n, N ≤ n → mover (r n) = .isr → (r n).pulsePhase = true → deadlinePassed (r n) = true

end Sys2Proof.Machine
end

