-- ==== Sys2Proof/Safety.lean ====
section
/-!
DEFINITION. What a good state and a safe run are, in the terms claims use: the invariants of 10_state R137 to R141 and their kin,
the contents of the queue (42_queue R504), the end of a run (70_reset R840), and the runs claims speak about.
-/

namespace Sys2Proof.Machine

/-! ## The queue's contents -/

/-- The unread entries, oldest first: what `Pop` would give, in order (R118, R502, R504). -/
def unreadEntries (s : State) : List Word :=
  (List.range (queueCount s)).map fun k => slotRead s (s.readIndex + k)

/-- A word a push may store: a legal queue request (R310, R312). -/
def LegalEntry (w : Word) : Prop := Legal w ∧ (decodeEntry w).isSome = true

/-! ## Invariants -/

/-- `STEP == pulsePhase` (R137), DIR follows `direction` (R121), SERVO follows `currentTarget` (R123). -/
def State.OutputsFollow (s : State) : Prop :=
  s.stepOut = s.pulsePhase ∧ s.dirOut = decide (s.direction = .forward) ∧ s.servo = s.currentTarget

/-- While idle no pulse is pending, STEP is low and the ramp phase is NONE (R139). -/
def State.IdleQuiet (s : State) : Prop :=
  s.active = false → s.pulsePhase = false ∧ s.stepOut = false ∧ s.rampPhase = .none

/-- While active the ramp phase is ACCEL or DECEL exactly when ramp shaping is on (R139). -/
def State.RampPhaseFits (s : State) : Prop :=
  s.active = true → (s.rampPhase = .none ↔ s.cfg.rampEnabled = false)

/-- The half-period bounds (R104, R114, R138): never above 2^31−1, and while active between the cruise half-period, which is at
least MIN_HALF_PERIOD, and the ramp's slowest. -/
def State.HalfPeriodBounds (s : State) : Prop :=
  s.halfPeriod.toNat ≤ 2 ^ 31 - 1 ∧ s.targetHalfPeriod.toNat ≤ 2 ^ 31 - 1 ∧
  (s.active = true →
    s.cfg.minHalfPeriod ≤ s.targetHalfPeriod.toNat ∧
    s.targetHalfPeriod.toNat ≤ s.halfPeriod.toNat ∧
    s.halfPeriod.toNat ≤ rampSlowest s.cfg s.targetHalfPeriod)

/-- Between ISR steps `timerDeadline == nextEventTime` (R140). -/
def State.TimerSynced (s : State) : Prop := s.timerDeadline = s.nextEventTime

/-- While active, `target` lies on the `direction` side of `position` or equals it (R140). -/
def State.TargetAhead (s : State) : Prop :=
  s.active = true →
    (s.direction = .forward → s32 s.position ≤ s32 s.target) ∧
    (s.direction = .reverse → s32 s.target ≤ s32 s.position)

/-- While a ramped move runs, `rampStartPosition` lies behind `position` or equals it (R109, R424). -/
def State.RampStartBehind (s : State) : Prop :=
  s.active = true → s.cfg.rampEnabled = true →
    (s.direction = .forward → s32 s.rampStartPosition ≤ s32 s.position) ∧
    (s.direction = .reverse → s32 s.position ≤ s32 s.rampStartPosition)

/-- The table cursor is in range (R112, R488), and a running ramp has repeats left (R487). -/
def State.RampCursor (s : State) : Prop :=
  s.rampIndex < s.cfg.rampTable.length ∧
  (s.active = true → s.cfg.rampEnabled = true → s.rampIterCount ≠ 0#16)

/-- `currentTarget ∈ {CUTTER_UP_POS, CUTTER_DOWN_POS}` (R555). -/
def State.CutterKnown (s : State) : Prop :=
  s.currentTarget = s.cfg.cutterUpPos ∨ s.currentTarget = s.cfg.cutterDownPos

/-- The indices are below N (R117), and the queue holds at most N − H + 1 entries (R141). -/
def State.QueueBounds (s : State) : Prop :=
  s.writeIndex < s.cfg.queueCapacity ∧ s.readIndex < s.cfg.queueCapacity ∧
  queueCount s + s.cfg.queueHeadroom ≤ s.cfg.queueCapacity + 1

/-- The slot memory keeps its canonical form. -/
def State.SlotsCanonical (s : State) : Prop := Memory.wf s.cfg.queueCapacity s.slots

/-- Every unread entry is a legal queue request (R312). -/
def State.EntriesLegal (s : State) : Prop := ∀ e ∈ unreadEntries s, LegalEntry e

/-- No settle delay is left over while FG is Ready (R128, R551). -/
def State.SettleDone (s : State) : Prop := s.fgMode = .ready → s.settleRemaining = 0#32

/-- No unknown entry has been dispatched (R312, R606). -/
def State.NoBadEntry (s : State) : Prop := Fault.badQueueEntry ∉ s.faults

/-- The invariants together, with a valid configuration (R13). -/
structure State.Inv (s : State) : Prop where
  valid : s.cfg.Valid
  outputs : s.OutputsFollow
  idle : s.IdleQuiet
  rampPhase : s.RampPhaseFits
  halfPeriod : s.HalfPeriodBounds
  timer : s.TimerSynced
  ahead : s.TargetAhead
  behind : s.RampStartBehind
  cursor : s.RampCursor
  cutter : s.CutterKnown
  queue : s.QueueBounds
  slots : s.SlotsCanonical
  entries : s.EntriesLegal
  settle : s.SettleDone
  noBadEntry : s.NoBadEntry

/-! ## The end of a run -/

/-- The end of a run (R840): no request waits, FG is Ready, the axis is idle, and no fault is recorded. -/
def State.Ended (s : State) : Prop :=
  s.requests = [] ∧ s.fgMode = .ready ∧ s.active = false ∧ s.faults = []

/-- Two states that agree but for the four registers R840 excepts and the scheduler's own fields. -/
def State.SameButTime (s t : State) : Prop :=
  { t with now := s.now, nextEventTime := s.nextEventTime, timerDeadline := s.timerDeadline,
           irqPending := s.irqPending, schedule := s.schedule, turns := s.turns } = s

/-! ## Runs that claims speak about -/

/-- FG performs these operations one after another. -/
def execAll : List Instr → State → Host.Outcome State Fault Refusal
  | [], s => .next s
  | i :: is, s =>
    match exec i s with
    | .next s' => execAll is s'
    | .fault f => .fault f
    | .refused r => .refused r

/-- `n` steps of the block, one after another. -/
def stepN : Nat → State → Host.Outcome State Fault Refusal
  | 0, s => .next s
  | n + 1, s =>
    match step s with
    | .next s' => stepN n s'
    | .fault f => .fault f
    | .refused r => .refused r

/-- The handler runs `n` times, each time exactly at the pending deadline: no handler latency (R433). -/
def takeDeadlines : Nat → State → Host.Outcome State Fault Refusal
  | 0, s => .next s
  | n + 1, s =>
    match exec .timerEvent { s with now := s.nextEventTime } with
    | .next s' => takeDeadlines n s'
    | .fault f => .fault f
    | .refused r => .refused r

/-- The handler runs once at each of these ticks, with nothing but time passing in between. -/
def takeAt : List Tick → State → Host.Outcome State Fault Refusal
  | [], s => .next s
  | t :: ts, s =>
    match exec .timerEvent { s with now := t } with
    | .next s' => takeAt ts s'
    | .fault f => .fault f
    | .refused r => .refused r

/-- At each of these ticks the deadline of a pending pulse has passed (R423, R426), however late the handler comes. -/
def InTimeAt : List Tick → State → Prop
  | [], _ => True
  | t :: ts, s =>
    (s.pulsePhase = true → 0 ≤ sdiff32 t s.nextEventTime) ∧
    ∀ s', exec .timerEvent { s with now := t } = .next s' → InTimeAt ts s'

/-- Rising and falling edges in turn at these ticks (R432). -/
def edgesAt : List Tick → List Stamped
  | a :: b :: ts => { event := .stepRise, time := a } :: { event := .stepFall, time := b } :: edgesAt ts
  | _ => []

/-- The deadline the handler's return leaves: the accumulated one, or one tick from `now` when that is not ahead (R429). -/
def nextDeadline (deadline now : Tick) : Tick :=
  if 1 ≤ (deadline - now).toInt then deadline else now + 1#32

/-- The edges of an unramped move of `n` steps whose first handler invocation is at `t0` (R433): rising edge k at `t0 + 2k·hp`,
falling edge k at `t0 + (2k+1)·hp`. -/
def moveEdges (t0 hp : Tick) (n : Nat) : List Stamped :=
  (List.range n).flatMap fun k =>
    [{ event := .stepRise, time := t0 + BitVec.ofNat 32 (2 * k) * hp },
     { event := .stepFall, time := t0 + BitVec.ofNat 32 (2 * k + 1) * hp }]

/-! ## Kinds of operations, for the writer table (R136) -/

/-- The queue requests that push (R500). -/
def isQueuePush : Instr → Bool
  | .qmove _ _ => true
  | .qcutup _ => true
  | .qcutdn _ => true
  | .qcuttg _ => true
  | _ => false

/-- The operations that contain START's body (R415, R602). -/
def mayStartMove : Instr → Bool
  | .start _ _ => true
  | .eMove _ _ => true
  | .poll => true
  | _ => false

/-- The operations that contain CutterMove (R552 to R554, R603 to R605). -/
def mayMoveCutter : Instr → Bool
  | .cutup _ => true
  | .cutdn _ => true
  | .cuttg _ => true
  | .eCutup _ => true
  | .eCutdn _ => true
  | .eCuttg _ => true
  | .poll => true
  | _ => false

/-- The operations that write ENABLE (R133). -/
def writesEnable : Instr → Bool
  | .moton => true
  | .motoff => true
  | .mottg => true
  | _ => false

/-- How often an event stands in a trace. -/
def countEvent (e : Event) (tr : List Stamped) : Nat := tr.countP fun x => x.event == e

end Sys2Proof.Machine
end

