-- ==== Sys2Proof/Certificates/Slice0/Obligations.lean ====
section
/-!
DEFINITION. The statements for the provers, from the numbered rules of spec/. A record update `{ s with … }` in a conclusion is a
whole next state, so such a statement is the operation's result, its completion and its frame at once: every register, every
event and every slot it does not name is unchanged.
-/

open Sys2Proof Sys2Proof.Machine

/-! ## Encoding -/

/-- R304, R306, R311, R315: decoding an encoded operation gives it back, in the request space and in the queue-entry space, for
every operand the encoding admits, and the timer event has no word. -/
def Obligations.DecodeOfEncodeIsIdentity : Prop :=
  (∀ i : Instr, i.space = .request → i.wellFormed = true → ∃ w, encode i = some w ∧ decodeRequest w = .ok i) ∧
  (∀ i : Instr, i.space = .queueEntry → ∃ w, encode i = some w ∧ decodeEntry w = some i) ∧
  encode .timerEvent = none

/-- R307: a word decodes to an operation exactly when it is legal, and the operation is the one whose word it is. -/
def Obligations.DecodeAcceptsExactlyLegalWords : Prop :=
  (∀ w : Word, Legal w ↔ ∃ i, decodeRequest w = .ok i) ∧
  (∀ (w : Word) (i : Instr), decodeRequest w = .ok i →
    i.space = .request ∧ i.wellFormed = true ∧ encode i = some w)

/-- R333: the worked encodings, the three illegal words, and the two responses. -/
def Obligations.WorkedEncodings : Prop :=
  decodeRequest 0x01000064000003E8#64 = .ok (.qmove 100#16 1000#32) ∧
  decodeRequest 0x01000064FFFFFC18#64 = .ok (.qmove 100#16 (BitVec.ofInt 32 (-1000))) ∧
  decodeRequest 0x2200000080000000#64 = .ok (.start 0#16 (BitVec.ofInt 32 (-2147483648))) ∧
  decodeRequest 0x030000C800000000#64 = .ok (.qcutdn 200#16) ∧
  decodeRequest 0x4200000000000000#64 = .ok (.cuttg 0#16) ∧
  decodeRequest 0x1000000000000000#64 = .ok .poll ∧
  decodeRequest 0x5000000300000000#64 = .ok (.rdreg 3#16) ∧
  decodeRequest 0x5000000700000000#64 = .error .indexOutOfRange ∧
  decodeRequest 0x1000000000000001#64 = .error .imm32Nonzero ∧
  decodeRequest 0x0101000000000000#64 = .error .reservedNonzero ∧
  responseWord .ok 1#32 = 0x0000000000000001#64 ∧
  responseWord .queueFull 0#32 = 0x0100000000000000#64

/-- R201: a word carried over a byte channel goes least significant byte first: byte k of the eight is bits 8k+7 to 8k of the word,
nothing is lost either way, and no other number of bytes is a word. -/
def Obligations.BytesCarryWordLittleEndian : Prop :=
  (∀ w : Word, (bytesOfWord w).length = 8 ∧ wordOfBytes (bytesOfWord w) = some w ∧
    ∀ k : Nat, k < 8 → (bytesOfWord w)[k]? = some (w.extractLsb' (8 * k) 8)) ∧
  (∀ (bs : List Byte) (w : Word), wordOfBytes bs = some w → bytesOfWord w = bs) ∧
  (∀ bs : List Byte, bs.length = 8 ↔ ∃ w, wordOfBytes bs = some w)

/-- R331: STATUS is the seven register reads in index order; QCUT is the move, the cutter down, the cutter up. -/
def Obligations.PseudoOperationsExpand : Prop :=
  statusWords.map (fun w => (decodeRequest w).toOption) =
    [some (.rdreg 0#16), some (.rdreg 1#16), some (.rdreg 2#16), some (.rdreg 3#16), some (.rdreg 4#16),
     some (.rdreg 5#16), some (.rdreg 6#16)] ∧
  ∀ (d : BitVec 16) (n : BitVec 32) (m : BitVec 16),
    (qcutWords d n m).map (fun w => (decodeRequest w).toOption) =
      [some (.qmove d n), some (.qcutdn m), some (.qcutup m)]

/-! ## A step -/

/-- R300, R712: when the scheduler names FG, FG is Ready and the HOST's next word decodes to an operation, the step is that
operation, on the state with the word taken and the scheduler's choice used. -/
def Obligations.StepPerformsDecodedRequest : Prop :=
  (∀ (s : State) (w : Word) (ws : List Word) (i : Instr),
    s.cfg.Valid → s.faults = [] → nextAgent s = .fg → s.fgMode = .ready → s.requests = w :: ws →
    decodeRequest w = .ok i → step s = exec i { advanceSchedule s with requests := ws }) ∧
  (∀ (s : State) (a : Agent) (rest : List Agent), s.schedule = a :: rest →
    nextAgent s = a ∧ advanceSchedule s = { s with schedule := rest }) ∧
  (∀ s : State, s.schedule = [] →
    let block := Config.freeBlock s.turns ++ [turnAgent s.turns]
    nextAgent s = block.headD .tick ∧ advanceSchedule s = { s with schedule := block.tail, turns := s.turns + 1 })

/-- R308: a request that is not legal is answered ILLEGAL_REQUEST and changes nothing else (the word and the scheduler's choice are
used up, in the model's own fields: log 5, log 6); word 0 is one; every word is either one operation or illegal. -/
def Obligations.IllegalRequestChangesNothing : Prop :=
  (∀ (s : State) (w : Word) (ws : List Word),
    s.cfg.Valid → s.faults = [] → nextAgent s = .fg → s.fgMode = .ready → s.requests = w :: ws → ¬ Legal w →
    step s = .next { advanceSchedule s with
      requests := ws, responses := s.responses ++ [0x0300000000000000#64] }) ∧
  ¬ Legal 0x0000000000000000#64 ∧
  (∀ w : Word, (∃ i, decodeRequest w = .ok i) ∨ ¬ Legal w)

/-- R420, R712: the interrupt handler runs exactly when it is pending; named while it is not, TICK moves instead (log 5). -/
def Obligations.StepRunsPendingInterrupt : Prop :=
  ∀ s : State, s.cfg.Valid → s.faults = [] → nextAgent s = .isr →
    (s.irqPending = true → step s = exec .timerEvent (advanceSchedule s)) ∧
    (s.irqPending = false → step s = .next (tick (advanceSchedule s)))

/-- R551: in Settling FG takes no request; at 0 ticks left it gives the held response and is Ready again; before that TICK moves
instead (log 5). -/
def Obligations.SettlingTakesNoRequest : Prop :=
  ∀ s : State, s.cfg.Valid → s.faults = [] → nextAgent s = .fg → s.fgMode = .settling →
    (s.settleRemaining = 0#32 →
      step s = .next { advanceSchedule s with fgMode := .ready, responses := s.responses ++ [s.held] }) ∧
    (s.settleRemaining ≠ 0#32 → step s = .next (tick (advanceSchedule s)))

/-- R131, R126: the TICK step. -/
def Obligations.TickAdvancesTime : Prop :=
  ∀ s : State, s.cfg.Valid → s.faults = [] → nextAgent s = .tick →
    step s = .next { advanceSchedule s with
      now := s.now + 1#32
      irqPending := if s.now + 1#32 = s.timerDeadline then true else s.irqPending
      settleRemaining :=
        if s.fgMode = .settling ∧ 0 < s.settleRemaining.toNat then s.settleRemaining - 1#32 else s.settleRemaining }

/-- R130, R703: with a fault recorded no agent has a step; that the step answers a recorded reason is the model's form (log 8). R13: a
configuration that breaks a constraint is rejected, by the step (log 3); nothing else is refused. -/
def Obligations.StepStopsOnlyOnFaultOrBadConfiguration : Prop :=
  (∀ s : State, s.cfg.Valid → s.faults ≠ [] → ∃ f, f ∈ s.faults ∧ step s = .fault f) ∧
  (∀ s : State, s.cfg.Valid → s.faults = [] → ∃ t, step s = .next t) ∧
  (∀ s : State, ¬ s.cfg.Valid → step s = .refused .invalidConfiguration)

/-! ## Runs and weak fairness -/

/-- R712, R211: every run is weakly fair. So time takes every value again and again, a pending interrupt is taken at last, by the
handler, and a settle delay ends at last. A run is the model's own form: its scheduler names every agent again and again (log 5). -/
def Obligations.EveryRunIsWeaklyFair : Prop :=
  ∀ r : Nat → State, IsRun r →
    WeaklyFair r ∧
    (∀ (n : Nat) (t : Tick), ∃ m, n ≤ m ∧ (r m).now = t) ∧
    (∀ n, (r n).irqPending = true →
      ∃ m, n ≤ m ∧ mover (r m) = .isr ∧ exec .timerEvent (advanceSchedule (r m)) = .next (r (m + 1))) ∧
    (∀ n, (r n).fgMode = .settling → ∃ m, n ≤ m ∧ (r m).fgMode = .ready)

/-- R842: on a run, which is weakly fair, every move completes, at its target; and the run, whose requests are finitely many and which
records no fault, reaches its end (R840). The premise that the handler is not late by 2^31 ticks or more at pending pulses again and
again is R426's; R842 leaves it out (log 21, DEDUCED). -/
def Obligations.EveryRunCompletesItsMovesAndEnds : Prop :=
  ∀ r : Nat → State, IsRun r → HandlerInTime r → (r 0).Inv →
    (∀ n, (r n).active = true →
      ∃ m, n ≤ m ∧ (r m).active = true ∧ (r (m + 1)).active = false ∧ (r (m + 1)).position = (r (m + 1)).target ∧
        (r (m + 1)).trace.getLast? = some { event := .complete, time := (r m).now }) ∧
    ∃ m, (r m).Ended

/-! ## Reset -/

/-- R142: after reset every piece of state has the value its table gives, for every configuration and every draw. -/
def Obligations.ResetGivesTableValues : Prop :=
  ∀ (c : Config) (d : Draws),
    let s := State.resetWith c d
    s.position = 0#32 ∧ s.target = 0#32 ∧ s.halfPeriod = 0#32 ∧ s.targetHalfPeriod = 0#32 ∧
    s.pulsePhase = false ∧ s.active = false ∧ s.nextEventTime = d.now + BitVec.ofNat 32 c.idleInterval ∧
    s.rampStartPosition = 0#32 ∧ s.rampMidpoint = 0#32 ∧ s.rampPhase = .none ∧ s.rampIndex = 0 ∧
    s.rampIterCount = 0#16 ∧ s.direction = d.direction ∧ (s.dirOut = true ↔ d.direction = .forward) ∧
    s.slots = d.slots ∧ s.writeIndex = 0 ∧ s.readIndex = 0 ∧
    s.currentTarget = c.cutterUpPos ∧ s.servo = c.cutterUpPos ∧ s.stepOut = false ∧
    s.enableOut = c.motorsOnAtReset ∧ s.now = d.now ∧ s.timerDeadline = d.now + BitVec.ofNat 32 c.idleInterval ∧
    s.irqPending = false ∧ s.fgMode = .ready ∧ s.settleRemaining = 0#32 ∧ s.faults = [] ∧ s.trace = []

/-- R137 to R141 at reset: every reset with a valid configuration and canonical draws meets the invariant, and `State.reset`, whose
configuration and draws are the model's own choice (log 1, log 4), is one of them. -/
def Obligations.ResetMeetsInvariant : Prop :=
  (∀ (c : Config) (d : Draws), c.Valid → Memory.wf c.queueCapacity d.slots → (State.resetWith c d).Inv) ∧
  State.reset.Inv

/-! ## Invariants -/

/-- R137 to R141, R555, R312: from every state that meets the invariant, a step leads to a state that meets it. -/
def Obligations.StepKeepsInvariant : Prop :=
  ∀ s t : State, s.Inv → step s = .next t → t.Inv

/-- R312, R606: from a state that meets the invariant no step records BadQueueEntry, and the one fault a step can record is
PositionOverflow. -/
def Obligations.BadQueueEntryUnreachable : Prop :=
  ∀ s t : State, s.Inv → step s = .next t → t.faults = [] ∨ t.faults = [.positionOverflow]

/-- R140: between ISR steps `timerDeadline` is `nextEventTime`; every step keeps it, in every state. And in every state a step
keeps the slot memory's canonical form, the model's own (log 11). -/
def Obligations.StepKeepsTimerSyncedAndSlotsCanonical : Prop :=
  ∀ s t : State, step s = .next t →
    (s.TimerSynced → t.TimerSynced) ∧ (s.SlotsCanonical → t.SlotsCanonical)

/-- R133, R13: no step and no operation writes a configuration parameter. -/
def Obligations.ConfigurationNeverWritten : Prop :=
  (∀ s t : State, step s = .next t → t.cfg = s.cfg) ∧
  (∀ (i : Instr) (s t : State), exec i s = .next t → t.cfg = s.cfg)

/-! ## Frames and whole-machine rules -/

/-- Every operation of the table completes: it answers a next state in every state. This is the model's form, not a rule: an operation
that raises a fault answers the state that records it (log 8), exec does not test whether its agent may move (log 17), an entry
operation may run outside POLL (log 16), and an RDREG term above 6 is answered as an illegal request (log 18). -/
def Obligations.EveryOperationCompletes : Prop :=
  ∀ (i : Instr) (s : State), ∃ t, exec i s = .next t

/-- R136, the FG column: no foreground operation writes `position`, STEP, `nextEventTime`, `timerDeadline`, `now` or
`irqPending`. -/
def Obligations.ForegroundLeavesTimerAndPosition : Prop :=
  ∀ (i : Instr) (s t : State), i ≠ .timerEvent → exec i s = .next t →
    t.position = s.position ∧ t.stepOut = s.stepOut ∧ t.nextEventTime = s.nextEventTime ∧
    t.timerDeadline = s.timerDeadline ∧ t.now = s.now ∧ t.irqPending = s.irqPending

/-- R136, the FG column: which foreground operations write the axis and ramp registers, and when: `target` only START while idle
and STOP and STOPALL while active, every other one only START while idle. `active` never falls. -/
def Obligations.ForegroundAxisWriters : Prop :=
  ∀ (i : Instr) (s t : State), i ≠ .timerEvent → exec i s = .next t →
    (t.target ≠ s.target →
      (mayStartMove i = true ∧ s.active = false) ∨ ((i = .stop ∨ i = .stopall) ∧ s.active = true)) ∧
    ((mayStartMove i = false ∨ s.active = true) →
      t.halfPeriod = s.halfPeriod ∧ t.targetHalfPeriod = s.targetHalfPeriod ∧
      t.rampStartPosition = s.rampStartPosition ∧ t.rampMidpoint = s.rampMidpoint ∧ t.rampPhase = s.rampPhase ∧
      t.rampIndex = s.rampIndex ∧ t.rampIterCount = s.rampIterCount ∧ t.direction = s.direction ∧
      t.dirOut = s.dirOut ∧ t.pulsePhase = s.pulsePhase ∧ t.active = s.active) ∧
    (s.active = true → t.active = true)

/-- R136, the FG column: which foreground operations write the queue, the cutter, FG's mode and ENABLE. -/
def Obligations.ForegroundQueueAndOutputWriters : Prop :=
  ∀ (i : Instr) (s t : State), i ≠ .timerEvent → exec i s = .next t →
    (isQueuePush i = false → t.slots = s.slots) ∧
    (isQueuePush i = false → i ≠ .stopall → t.writeIndex = s.writeIndex) ∧
    (i ≠ .poll → i ≠ .stopall → t.readIndex = s.readIndex) ∧
    (mayMoveCutter i = false →
      t.currentTarget = s.currentTarget ∧ t.servo = s.servo ∧ t.fgMode = s.fgMode ∧
      t.settleRemaining = s.settleRemaining) ∧
    (writesEnable i = false → t.enableOut = s.enableOut)

/-- R136, the ISR column, with R431 and R705: what the handler does not write; it raises nothing and gives no response. -/
def Obligations.HandlerWriters : Prop :=
  ∀ s t : State, exec .timerEvent s = .next t →
    (t.target = s.target ∧ t.targetHalfPeriod = s.targetHalfPeriod ∧ t.rampStartPosition = s.rampStartPosition ∧
      t.direction = s.direction ∧ t.dirOut = s.dirOut) ∧
    (t.slots = s.slots ∧ t.writeIndex = s.writeIndex ∧ t.readIndex = s.readIndex) ∧
    (t.currentTarget = s.currentTarget ∧ t.servo = s.servo ∧ t.enableOut = s.enableOut ∧ t.fgMode = s.fgMode ∧
      t.settleRemaining = s.settleRemaining ∧ t.held = s.held) ∧
    (t.faults = s.faults ∧ t.responses = s.responses ∧ t.requests = s.requests ∧ t.now = s.now) ∧
    (s.active = false → t.active = false ∧ t.position = s.position ∧ t.halfPeriod = s.halfPeriod ∧
      t.pulsePhase = s.pulsePhase ∧ t.stepOut = s.stepOut ∧ t.rampPhase = s.rampPhase ∧ t.rampIndex = s.rampIndex ∧
      t.rampIterCount = s.rampIterCount ∧ t.rampMidpoint = s.rampMidpoint ∧ t.trace = s.trace)

/-- The frame of the slot space (R200, R501): an operation that pushes writes at most the slot `writeIndex` names, and any other
operation writes none. -/
def Obligations.SlotsFrame : Prop :=
  ∀ (i : Instr) (s t : State), exec i s = .next t →
    ∀ j : Nat, (isQueuePush i = true → slotOf s j ≠ slotOf s s.writeIndex) → slotRead t j = slotRead s j

/-- R122, R608: ENABLE has no effect on anything else: two runs that differ in ENABLE alone still differ in it alone. -/
def Obligations.EnableDoesNotInterfere : Prop :=
  ∀ (i : Instr) (s t : State) (b : Bool), writesEnable i = false → exec i s = .next t →
    exec i { s with enableOut := b } = .next { t with enableOut := b }

/-- R102, R424, R432: in every step, `position` moves by exactly one microstep toward `target` when one StepRise is emitted, and
not at all when none is: "no pulse is ever lost or double-counted". -/
def Obligations.PositionCountsStepRises : Prop :=
  ∀ s t : State, step s = .next t →
    (t.position = s.position ∧ countEvent .stepRise t.trace = countEvent .stepRise s.trace) ∨
    (countEvent .stepRise t.trace = countEvent .stepRise s.trace + 1 ∧
      ((s32 s.position < s32 s.target ∧ s32 t.position = s32 s.position + 1) ∨
       (s32 s.target < s32 s.position ∧ s32 t.position = s32 s.position - 1)))

/-- R840: after the end of a run a step changes only `now`, `nextEventTime`, `timerDeadline` and `irqPending` (and the scheduler's
own fields), and the run is still at its end. -/
def Obligations.EndOfRunIsStable : Prop :=
  ∀ s t : State, s.Ended → step s = .next t → t.Ended ∧ s.SameButTime t

/-! ## CommandQueue -/

/-- R501, R510 to R513: a push into a queue that is not full stores the request word itself at `writeIndex`, moves that index one
step mod N, and answers OK. -/
def Obligations.QueuePushStoresRequestWord : Prop :=
  ∀ s : State, isFull s = false →
    let stored := fun (w : Word) => ({ s with
      slots := Memory.write s.slots (s.writeIndex % s.cfg.queueCapacity) w
      writeIndex := (s.writeIndex + 1) % s.cfg.queueCapacity
      responses := s.responses ++ [0x0000000000000000#64] } : State)
    (∀ (d : BitVec 16) (n : BitVec 32), ∃ w, encode (.qmove d n) = some w ∧ exec (.qmove d n) s = .next (stored w)) ∧
    (∀ m : BitVec 16, ∃ w, encode (.qcutup m) = some w ∧ exec (.qcutup m) s = .next (stored w)) ∧
    (∀ m : BitVec 16, ∃ w, encode (.qcutdn m) = some w ∧ exec (.qcutdn m) s = .next (stored w)) ∧
    (∀ m : BitVec 16, ∃ w, encode (.qcuttg m) = some w ∧ exec (.qcuttg m) s = .next (stored w))

/-- R702: QueueFull. A push while `isFull` answers QUEUE_FULL; the queue and every other piece of state are unchanged. -/
def Obligations.QueueFullRefusesPush : Prop :=
  ∀ s : State, isFull s = true →
    let refused : State := { s with responses := s.responses ++ [0x0100000000000000#64] }
    (∀ (d : BitVec 16) (n : BitVec 32), exec (.qmove d n) s = .next refused) ∧
    (∀ m : BitVec 16, exec (.qcutup m) s = .next refused) ∧
    (∀ m : BitVec 16, exec (.qcutdn m) s = .next refused) ∧
    (∀ m : BitVec 16, exec (.qcuttg m) s = .next refused)

/-- R503, R514, R515: QFULL and QEMPTY, each with its word, answer the two predicates and change nothing. -/
def Obligations.QueuePredicatesAnswered : Prop :=
  decodeRequest 0x0500000000000000#64 = .ok .qfull ∧ decodeRequest 0x0600000000000000#64 = .ok .qempty ∧
  ∀ s : State, s.cfg.Valid →
    exec .qfull s = .next { s with
      responses := s.responses ++
        [if (s.cfg.queueCapacity : Int) - ((s.writeIndex : Int) - (s.readIndex : Int)) % (s.cfg.queueCapacity : Int) <
            (s.cfg.queueHeadroom : Int)
         then 0x0000000000000001#64 else 0x0000000000000000#64] } ∧
    exec .qempty s = .next { s with
      responses := s.responses ++
        [if s.writeIndex = s.readIndex then 0x0000000000000001#64 else 0x0000000000000000#64] }

/-- R501, R502, R504, R505: the queue is FIFO. Its unread entries grow at the end by a push, shrink at the front by a pop, and are
none after a clear. -/
def Obligations.QueueIsFifo : Prop :=
  ∀ s : State, s.cfg.Valid → s.QueueBounds → s.SlotsCanonical →
    (∀ w t, push w s = (t, .ok) → unreadEntries t = unreadEntries s ++ [w]) ∧
    (∀ w t c, push w s = (t, c) → c ≠ .ok → t = s) ∧
    (∀ e t, pop s = some (e, t) → unreadEntries s = e :: unreadEntries t) ∧
    (pop s = none ↔ unreadEntries s = []) ∧
    unreadEntries (clearQueue s) = [] ∧
    (unreadEntries s).length = queueCount s

/-- R811: a burst of k pushes into a queue of `count` entries is admitted whole exactly when `count ≤ N − H − k + 1`. -/
def Obligations.BurstAdmittedExactlyWhenItFits : Prop :=
  ∀ (s : State) (is : List Instr), s.cfg.Valid → s.QueueBounds → (∀ i ∈ is, isQueuePush i = true) →
    ∃ t, execAll is s = .next t ∧
      (t.responses = s.responses ++ List.replicate is.length 0x0000000000000000#64 ↔
        queueCount s + s.cfg.queueHeadroom + is.length ≤ s.cfg.queueCapacity + 1)

/-! ## START, STOP, ISACTIVE -/

/-- R413: START while active emits `Log(MoveRejected)`, answers MOVE_REJECTED and changes no register, whatever its operands. -/
def Obligations.StartRejectedWhileActive : Prop :=
  ∀ (s : State) (d : BitVec 16) (n : BitVec 32), s.active = true →
    exec (.start d n) s = .next { s with
      trace := s.trace ++ [{ event := .log .moveRejected, time := s.now }]
      responses := s.responses ++ [0x0200000000000000#64] }

/-- R414: START with `deltaSteps == 0` while idle answers OK and changes no state; an E_MOVE of no steps likewise, with the held
response (R602). -/
def Obligations.StartOfZeroStepsIsNoMove : Prop :=
  ∀ (s : State) (d : BitVec 16), s.active = false →
    exec (.start d 0#32) s = .next { s with responses := s.responses ++ [0x0000000000000000#64] } ∧
    exec (.eMove d 0#32) s = .next { s with responses := s.responses ++ [s.held] }

/-- R415, R703: START, directly or as a dispatched E_MOVE, whose target leaves the signed 32-bit range records PositionOverflow,
gives no response and writes nothing else; after it no agent has a step (the form of the stop is log 8's). -/
def Obligations.PositionOverflowIsAStickyFault : Prop :=
  ∀ (s : State) (d : BitVec 16) (n : BitVec 32),
    s.active = false → s.faults = [] → s32 n ≠ 0 →
    (s32 s.position + s32 n < -(2 ^ 31) ∨ 2 ^ 31 - 1 < s32 s.position + s32 n) →
    let faulted : State := { s with faults := [.positionOverflow] }
    exec (.start d n) s = .next faulted ∧ exec (.eMove d n) s = .next faulted ∧
    (s.cfg.Valid → step faulted = .fault .positionOverflow)

/-- R411, R412, R415: an accepted START without ramp shaping, and the same move dispatched as E_MOVE (R602): the two next states
differ in their response alone, OK for the one and the held response for the other. -/
def Obligations.StartWithoutRamp : Prop :=
  ∀ (s : State) (d : BitVec 16) (n : BitVec 32),
    s.active = false → s.cfg.rampEnabled = false → s32 n ≠ 0 →
    -(2 ^ 31) ≤ s32 s.position + s32 n → s32 s.position + s32 n ≤ 2 ^ 31 - 1 →
    let hp := BitVec.ofNat 32 (max ((d.toNat * s.cfg.ticksPerMs) / (2 * (s32 n).natAbs)) s.cfg.minHalfPeriod)
    let started := fun (r : Word) => ({ s with
      target := BitVec.ofInt 32 (s32 s.position + s32 n)
      direction := if 0 < s32 n then .forward else .reverse
      dirOut := decide (0 < s32 n)
      trace := s.trace ++ [{ event := .dir (decide (0 < s32 n)), time := s.now }]
      targetHalfPeriod := hp
      halfPeriod := hp
      rampPhase := .none
      pulsePhase := false
      active := true
      responses := s.responses ++ [r] } : State)
    exec (.start d n) s = .next (started 0x0000000000000000#64) ∧
    exec (.eMove d n) s = .next (started s.held)

/-- R411, R412, R415, R481: an accepted START with ramp shaping, and the same move dispatched as E_MOVE (R602). -/
def Obligations.StartWithRamp : Prop :=
  ∀ (s : State) (d : BitVec 16) (n : BitVec 32),
    s.cfg.Valid → s.active = false → s.cfg.rampEnabled = true → s32 n ≠ 0 →
    -(2 ^ 31) ≤ s32 s.position + s32 n → s32 s.position + s32 n ≤ 2 ^ 31 - 1 →
    let thp := max ((d.toNat * s.cfg.ticksPerMs) / (2 * (s32 n).natAbs)) s.cfg.minHalfPeriod
    let started := fun (r : Word) => ({ s with
      target := BitVec.ofInt 32 (s32 s.position + s32 n)
      direction := if 0 < s32 n then .forward else .reverse
      dirOut := decide (0 < s32 n)
      trace := s.trace ++ [{ event := .dir (decide (0 < s32 n)), time := s.now }]
      targetHalfPeriod := BitVec.ofNat 32 thp
      halfPeriod := BitVec.ofNat 32 (max s.cfg.rampStartHalfPeriod thp)
      rampStartPosition := s.position
      rampIndex := 0
      rampIterCount := s.cfg.rampTable.headD 0#16
      rampPhase := .accel
      rampMidpoint :=
        if s.cfg.rampStartHalfPeriod ≤ thp then BitVec.ofInt 32 (s32 s.position + s32 n)
        else BitVec.ofInt 32 (s32 s.position + (s32 n).tdiv 2)
      pulsePhase := false
      active := true
      responses := s.responses ++ [r] } : State)
    exec (.start d n) s = .next (started 0x0000000000000000#64) ∧
    exec (.eMove d n) s = .next (started s.held)

/-- R411: the half-period of a move, written out; with a valid configuration it is at least MIN_HALF_PERIOD and at most 2^31 − 1,
and a move of no duration, or of −2^31 steps, has MIN_HALF_PERIOD (R416). -/
def Obligations.HalfPeriodOfMoveBounds : Prop :=
  ∀ (c : Config) (d : BitVec 16) (δ : Int), c.Valid → δ ≠ 0 →
    halfPeriodFor c d δ = max ((d.toNat * c.ticksPerMs) / (2 * δ.natAbs)) c.minHalfPeriod ∧
    c.minHalfPeriod ≤ halfPeriodFor c d δ ∧ halfPeriodFor c d δ ≤ 2 ^ 31 - 1 ∧
    halfPeriodFor c 0#16 δ = c.minHalfPeriod ∧ halfPeriodFor c d (-(2 ^ 31)) = c.minHalfPeriod

/-- R417, R419: STOP, with its word, writes `target` while active and nothing while idle; ISACTIVE, with its word, answers
`active`. -/
def Obligations.StopAndIsactive : Prop :=
  decodeRequest 0x2100000000000000#64 = .ok .stop ∧ decodeRequest 0x2300000000000000#64 = .ok .isactive ∧
  ∀ s : State,
    exec .stop s = .next { s with
      target := if s.active then s.position else s.target
      responses := s.responses ++ [0x0000000000000000#64] } ∧
    exec .isactive s = .next { s with
      responses := s.responses ++ [if s.active then 0x0000000000000001#64 else 0x0000000000000000#64] }

/-- R418: after a STOP during a move, the next handler invocation (at any tick at which a pending pulse's deadline has passed)
completes the move where it stands, with no further rising edge. -/
def Obligations.NoStepAfterStop : Prop :=
  ∀ (s : State) (n : Tick), s.active = true → s.halfPeriod ≠ 0#32 →
    (s.pulsePhase = true → 0 ≤ (n - s.nextEventTime).toInt) →
    ∃ u t, exec .stop s = .next u ∧ exec .timerEvent { u with now := n } = .next t ∧
      t.active = false ∧ t.position = s.position ∧ t.target = s.position ∧
      countEvent .stepRise t.trace = countEvent .stepRise s.trace ∧
      countEvent .complete t.trace = countEvent .complete s.trace + 1

/-! ## TIMER_EVENT -/

/-- R421, R420: while idle the handler re-arms for IDLE_INTERVAL and does nothing else. -/
def Obligations.HandlerIdleRearms : Prop :=
  ∀ s : State, s.active = false →
    exec .timerEvent s = .next { s with
      irqPending := false
      nextEventTime := s.now + BitVec.ofNat 32 s.cfg.idleInterval
      timerDeadline := s.now + BitVec.ofNat 32 s.cfg.idleInterval }

/-- R422, R428: the zero-half-period guard disarms. -/
def Obligations.HandlerDisarmsOnZeroHalfPeriod : Prop :=
  ∀ s : State, s.active = true → s.halfPeriod = 0#32 →
    exec .timerEvent s = .next { s with
      irqPending := false
      active := false
      stepOut := if s.pulsePhase then false else s.stepOut
      pulsePhase := false
      rampPhase := .none
      rampIndex := 0
      rampIterCount := 0#16
      nextEventTime := s.now + BitVec.ofNat 32 s.cfg.idleInterval
      timerDeadline := s.now + BitVec.ofNat 32 s.cfg.idleInterval
      trace := s.trace ++ (if s.pulsePhase then [{ event := .stepFall, time := s.now }] else []) ++
        [{ event := .disarmed, time := s.now }] }

/-- R423 case b, R424, R429: the rising edge. -/
def Obligations.HandlerRisingEdge : Prop :=
  ∀ s : State, s.active = true → s.halfPeriod ≠ 0#32 → s.pulsePhase = false → s.position ≠ s.target →
    exec .timerEvent s = .next { s with
      irqPending := false
      stepOut := true
      pulsePhase := true
      position := if s32 s.position < s32 s.target then s.position + 1#32 else s.position - 1#32
      trace := s.trace ++ [{ event := .stepRise, time := s.now }]
      nextEventTime := nextDeadline (s.nextEventTime + s.halfPeriod) s.now
      timerDeadline := nextDeadline (s.nextEventTime + s.halfPeriod) s.now }

/-- R423 case a, R425, R429: the falling edge of a step that is not the last, with the ramp advanced where it runs; the low phase
that follows lasts the new half-period. -/
def Obligations.HandlerFallingEdge : Prop :=
  ∀ s : State, s.active = true → s.halfPeriod ≠ 0#32 → s.pulsePhase = true →
    0 ≤ (s.now - s.nextEventTime).toInt → s.position ≠ s.target →
    let r := if s.rampPhase = .none then s else rampAdvance s
    exec .timerEvent s = .next { s with
      irqPending := false
      stepOut := false
      pulsePhase := false
      halfPeriod := r.halfPeriod
      rampPhase := r.rampPhase
      rampIndex := r.rampIndex
      rampIterCount := r.rampIterCount
      rampMidpoint := r.rampMidpoint
      trace := s.trace ++ [{ event := .stepFall, time := s.now }]
      nextEventTime := nextDeadline (s.nextEventTime + r.halfPeriod) s.now
      timerDeadline := nextDeadline (s.nextEventTime + r.halfPeriod) s.now }

/-- R423 cases a and c, R425, R427: a move is complete when a falling edge leaves `position == target`, or when the handler finds
no pulse pending there; the timing diagnostics stay. -/
def Obligations.HandlerCompletesMove : Prop :=
  ∀ s : State, s.active = true → s.halfPeriod ≠ 0#32 → s.position = s.target →
    (s.pulsePhase = true → 0 ≤ (s.now - s.nextEventTime).toInt) →
    exec .timerEvent s = .next { s with
      irqPending := false
      active := false
      stepOut := if s.pulsePhase then false else s.stepOut
      pulsePhase := false
      rampPhase := .none
      rampIndex := 0
      rampIterCount := 0#16
      nextEventTime := s.now + BitVec.ofNat 32 s.cfg.idleInterval
      timerDeadline := s.now + BitVec.ofNat 32 s.cfg.idleInterval
      trace := s.trace ++ (if s.pulsePhase then [{ event := .stepFall, time := s.now }] else []) ++
        [{ event := .complete, time := s.now }] }

/-- R423 case d, R426: a pending pulse whose deadline has not passed gets no effect; the handler re-arms for the rest. -/
def Obligations.HandlerWaitsForPendingPulse : Prop :=
  ∀ s : State, s.active = true → s.halfPeriod ≠ 0#32 → s.pulsePhase = true →
    (s.now - s.nextEventTime).toInt < 0 →
    exec .timerEvent s = .next { s with
      irqPending := false
      nextEventTime := nextDeadline s.nextEventTime s.now
      timerDeadline := nextDeadline s.nextEventTime s.now }

/-- R483 to R488: the ramp advance, written out. -/
def Obligations.RampAdvanceFollowsTable : Prop :=
  ∀ s : State, s.rampIndex < s.cfg.rampTable.length →
    let crossed :=
      if s.direction = .forward then s32 s.rampMidpoint ≤ s32 s.position else s32 s.position ≤ s32 s.rampMidpoint
    let phase := if s.rampPhase = .accel ∧ crossed then RampPhase.decel else s.rampPhase
    let entry := fun (k : Nat) => s.cfg.rampTable.getD k 0#16
    let up := min (s.rampIndex + 1) (s.cfg.rampTable.length - 1)
    let down := max ((s.rampIndex : Int) - 1) 0
    rampAdvance s =
      if 1 < s.rampIterCount.toNat then
        { s with rampPhase := phase, rampIterCount := BitVec.ofNat 16 (s.rampIterCount.toNat - 1) }
      else if phase = .accel ∧ s.targetHalfPeriod.toNat < s.halfPeriod.toNat then
        { s with
          rampPhase := phase
          halfPeriod := BitVec.ofNat 32 (s.halfPeriod.toNat - 1)
          rampIndex := up
          rampMidpoint :=
            if s.halfPeriod.toNat - 1 = s.targetHalfPeriod.toNat then
              BitVec.ofInt 32 (s32 s.target - (s32 s.position - s32 s.rampStartPosition))
            else s.rampMidpoint
          rampIterCount := entry up }
      else if phase ≠ .accel ∧
          s.halfPeriod.toNat < max s.cfg.rampStartHalfPeriod s.targetHalfPeriod.toNat then
        { s with
          rampPhase := phase
          halfPeriod := s.halfPeriod + 1#32
          rampIndex := down.toNat
          rampIterCount := entry down.toNat }
      else { s with rampPhase := phase, rampIterCount := entry s.rampIndex }

/-- R484, R489: the recomputed midpoint is exact, with no 32-bit wrap, and lies between the start of the move and its target. -/
def Obligations.RecomputedMidpointIsExact : Prop :=
  ∀ s : State, s.Inv → s.active = true → s.cfg.rampEnabled = true →
    s32 (recomputedMidpoint s) = s32 s.target - (s32 s.position - s32 s.rampStartPosition) ∧
    (s.direction = .forward →
      s32 s.rampStartPosition ≤ s32 (recomputedMidpoint s) ∧ s32 (recomputedMidpoint s) ≤ s32 s.target) ∧
    (s.direction = .reverse →
      s32 s.target ≤ s32 (recomputedMidpoint s) ∧ s32 (recomputedMidpoint s) ≤ s32 s.rampStartPosition)

/-- R107, R427, R103: a step that ends a move (other than the disarm of a zero half-period) ends it at its target, with Complete
the last event. -/
def Obligations.CompletionMeansArrival : Prop :=
  ∀ s t : State, step s = .next t → s.active = true → t.active = false → s.halfPeriod ≠ 0#32 →
    t.position = t.target ∧ t.target = s.target ∧ t.position = s.position ∧
    t.trace.getLast? = some { event := .complete, time := s.now }

/-- R432, R821: exactness under any latency. An unstopped move that stands `n` steps from its target is performed by 2n handler
invocations at any ticks at which a pending pulse's deadline has passed: n StepRise and n StepFall in turn, Complete at the tick of
the last StepFall, and `position == target`; ramped or not. And whatever else the agents do in between, at whatever latency, a move
whose target no STOP moves ends at it after exactly n StepRise, n StepFall and one Complete. -/
def Obligations.MoveIsExact : Prop :=
  (∀ (s : State) (n : Nat) (ts : List Tick), s.cfg.Valid → s.active = true → s.pulsePhase = false →
    s.halfPeriod ≠ 0#32 → s.targetHalfPeriod ≠ 0#32 →
    n = (s32 s.target - s32 s.position).natAbs → n ≠ 0 → ts.length = 2 * n → InTimeAt ts s →
    ∃ t, takeAt ts s = .next t ∧
      t.active = false ∧ t.position = s.target ∧ t.target = s.target ∧
      t.trace = s.trace ++ edgesAt ts ++ [{ event := .complete, time := ts.getLastD 0#32 }]) ∧
  (∀ (r : Nat → State) (m : Nat), (∀ k, k < m → step (r k) = .next (r (k + 1))) → (r 0).Inv →
    (r 0).pulsePhase = false → (∀ k, k < m → (r k).active = true ∧ (r k).target = (r 0).target) → m ≠ 0 →
    (r m).active = false →
    let n := (s32 (r 0).target - s32 (r 0).position).natAbs
    (r m).position = (r 0).target ∧ (r m).target = (r 0).target ∧
    countEvent .stepRise (r m).trace = countEvent .stepRise (r 0).trace + n ∧
    countEvent .stepFall (r m).trace = countEvent .stepFall (r 0).trace + n ∧
    countEvent .complete (r m).trace = countEvent .complete (r 0).trace + 1)

/-- R433: the edge times of an unramped move with no handler latency: rising edge k at T0 + 2k·hp, falling edge k at
T0 + (2k+1)·hp, Complete with the last falling edge; T0 is the deadline pending at the START. -/
def Obligations.UnrampedMoveEdgeTimes : Prop :=
  ∀ (s : State) (n : Nat), s.active = true → s.pulsePhase = false → s.rampPhase = .none →
    s.halfPeriod ≠ 0#32 → s.halfPeriod.toNat ≤ 2 ^ 31 - 1 →
    n = (s32 s.target - s32 s.position).natAbs → n ≠ 0 →
    ∃ t, takeDeadlines (2 * n) s = .next t ∧
      t.trace = s.trace ++ moveEdges s.nextEventTime s.halfPeriod n ++
        [{ event := .complete, time := s.nextEventTime + BitVec.ofNat 32 (2 * n - 1) * s.halfPeriod }]

/-! ## CutterActuator -/

/-- R550, R552 to R554, R603 to R605: a cutter move with no settle delay commands the servo and answers at once: a direct request
OK, a dispatched entry the held response. -/
def Obligations.CutterMoveAtOnce : Prop :=
  ∀ s : State,
    let opposite := if s.currentTarget = s.cfg.cutterUpPos then s.cfg.cutterDownPos else s.cfg.cutterUpPos
    let moved := fun (p : BitVec 16) (h r : Word) => ({ s with
      currentTarget := p
      servo := p
      trace := s.trace ++ [{ event := .servo p, time := s.now }]
      held := h
      responses := s.responses ++ [r] } : State)
    exec (.cutup 0#16) s = .next (moved s.cfg.cutterUpPos 0#64 0#64) ∧
    exec (.cutdn 0#16) s = .next (moved s.cfg.cutterDownPos 0#64 0#64) ∧
    exec (.cuttg 0#16) s = .next (moved opposite 0#64 0#64) ∧
    exec (.eCutup 0#16) s = .next (moved s.cfg.cutterUpPos s.held s.held) ∧
    exec (.eCutdn 0#16) s = .next (moved s.cfg.cutterDownPos s.held s.held) ∧
    exec (.eCuttg 0#16) s = .next (moved opposite s.held s.held)

/-- R550, R551, R552 to R554, R603 to R605: a cutter move with a settle delay commands the servo, gives no response yet, and enters
Settling for `settleMs × TICKS_PER_MS` ticks. -/
def Obligations.CutterMoveSettles : Prop :=
  ∀ (s : State) (m : BitVec 16), m ≠ 0#16 →
    let opposite := if s.currentTarget = s.cfg.cutterUpPos then s.cfg.cutterDownPos else s.cfg.cutterUpPos
    let settling := fun (p : BitVec 16) (h : Word) => ({ s with
      currentTarget := p
      servo := p
      trace := s.trace ++ [{ event := .servo p, time := s.now }]
      held := h
      fgMode := .settling
      settleRemaining := BitVec.ofNat 32 (m.toNat * s.cfg.ticksPerMs) } : State)
    exec (.cutup m) s = .next (settling s.cfg.cutterUpPos 0#64) ∧
    exec (.cutdn m) s = .next (settling s.cfg.cutterDownPos 0#64) ∧
    exec (.cuttg m) s = .next (settling opposite 0#64) ∧
    exec (.eCutup m) s = .next (settling s.cfg.cutterUpPos s.held) ∧
    exec (.eCutdn m) s = .next (settling s.cfg.cutterDownPos s.held) ∧
    exec (.eCuttg m) s = .next (settling opposite s.held)

/-- R551: the settle delay lasts its ticks. Over a schedule of ticks with FG named at the end, FG stays in Settling until the count
is used up, takes no request meanwhile, and then gives exactly the held response. -/
def Obligations.SettleDelayLastsItsTicks : Prop :=
  ∀ (s : State) (n : Nat) (rest : List Agent), s.cfg.Valid → s.faults = [] → s.fgMode = .settling →
    s.settleRemaining.toNat = n → s.schedule = List.replicate n .tick ++ .fg :: rest →
    (∀ k, k ≤ n → ∃ u : State, stepN k s = .next u ∧ u.fgMode = .settling ∧
      u.settleRemaining.toNat = n - k ∧ u.requests = s.requests ∧ u.responses = s.responses) ∧
    ∃ t : State, stepN (n + 1) s = .next t ∧ t.fgMode = .ready ∧ t.requests = s.requests ∧
      t.responses = s.responses ++ [s.held] ∧ t.now = s.now + BitVec.ofNat 32 n

/-! ## MotionController -/

/-- R601 to R605: POLL while MOVING answers 1 and pops nothing; on an idle, empty queue it answers the fullness and changes nothing,
which is 0 for a valid configuration; on an idle queue that holds entries it pops one, holds `(OK, fullness after the pop)` and
performs the popped entry's operation, which completes. -/
def Obligations.PollAnswersOrDispatchesOneEntry : Prop :=
  (∀ s : State, s.active = true →
    exec .poll s = .next { s with responses := s.responses ++ [0x0000000000000001#64] }) ∧
  (∀ s : State, s.cfg.Valid → s.active = false → s.writeIndex = s.readIndex →
    exec .poll s = .next { s with responses := s.responses ++ [0x0000000000000000#64] }) ∧
  (∀ (s : State) (i : Instr), s.active = false → s.writeIndex ≠ s.readIndex →
    decodeEntry (slotRead s s.readIndex) = some i →
    let popped : State := { s with readIndex := (s.readIndex + 1) % s.cfg.queueCapacity }
    exec .poll s = exec i { popped with
      held := if isFull popped then 0x0000000000000001#64 else 0x0000000000000000#64 } ∧
    ∃ t, exec .poll s = .next t ∧ t.readIndex = (s.readIndex + 1) % s.cfg.queueCapacity)

/-- R606: the dispatch of an unknown kind records BadQueueEntry, and no response is given. -/
def Obligations.UnknownEntryRaisesFault : Prop :=
  ∀ (s : State) (e : Word), s.faults = [] →
    opField e ≠ 0x01#8 → opField e ≠ 0x02#8 → opField e ≠ 0x03#8 → opField e ≠ 0x04#8 →
    dispatchEntry e s = .next { s with faults := [.badQueueEntry] }

/-- R607: STOPALL, with its word, clears both indices and stops the move softly, in one step, and leaves the slots and ENABLE
alone. -/
def Obligations.StopallClearsAndStops : Prop :=
  decodeRequest 0x2000000000000000#64 = .ok .stopall ∧
  ∀ s : State,
    exec .stopall s = .next { s with
      writeIndex := 0
      readIndex := 0
      target := if s.active then s.position else s.target
      responses := s.responses ++ [0x0000000000000000#64] }

/-- R608 to R610: the motor operations, with their words, write ENABLE, emit its level, and touch nothing else. -/
def Obligations.MotorOperationsWriteEnable : Prop :=
  decodeRequest 0x3000000000000000#64 = .ok .moton ∧ decodeRequest 0x3100000000000000#64 = .ok .motoff ∧
  decodeRequest 0x3200000000000000#64 = .ok .mottg ∧
  ∀ s : State,
    let driven := fun (b : Bool) => ({ s with
      enableOut := b
      trace := s.trace ++ [{ event := .enable b, time := s.now }]
      responses := s.responses ++ [0x0000000000000000#64] } : State)
    exec .moton s = .next (driven true) ∧ exec .motoff s = .next (driven false) ∧
    exec .mottg s = .next (driven (!s.enableOut))

/-- R611, R320, R322: RDREG answers the register of its index and changes nothing. A term
with an index above 6 is no operation of the set (R307 makes its word illegal); that exec answers it like an illegal request is the
model's choice (log 18, DEDUCED). -/
def Obligations.RdregReadsStatusRegisters : Prop :=
  ∀ s : State,
    let answered := fun (v : BitVec 32) => ({ s with responses := s.responses ++ [0#32 ++ v] } : State)
    exec (.rdreg 0#16) s = .next (answered s.position) ∧
    exec (.rdreg 1#16) s = .next (answered s.target) ∧
    exec (.rdreg 2#16) s = .next (answered (if s.active then 1#32 else 0#32)) ∧
    exec (.rdreg 3#16) s = .next (answered s.halfPeriod) ∧
    exec (.rdreg 4#16) s = .next (answered s.targetHalfPeriod) ∧
    exec (.rdreg 5#16) s = .next (answered
      (match s.rampPhase with | .none => 0#32 | .accel => 1#32 | .decel => 2#32)) ∧
    exec (.rdreg 6#16) s = .next (answered s.nextEventTime) ∧
    ∀ k : BitVec 16, 6 < k.toNat →
      exec (.rdreg k) s = .next { s with responses := s.responses ++ [0x0300000000000000#64] }
end

