-- ==== Sys2Proof/Laws/Decode.lean ====
section
/-!
SUPPORT. The small lemmas of the word fields, the decoder and the encoder.
-/

namespace Sys2Proof

/-! ## Fields of a packed word -/

@[simp] theorem opField_packWord (o : BitVec 8) (a : BitVec 16) (b : BitVec 32) : opField (packWord o a b) = o := by
  apply BitVec.eq_of_getLsbD_eq
  intro i hi
  simp only [opField, packWord, BitVec.getLsbD_extractLsb', BitVec.getLsbD_append]
  simp only [hi, decide_true, Bool.true_and]
  rw [if_neg (by omega), if_neg (by omega), if_neg (by omega)]
  congr 1; omega

@[simp] theorem rsvField_packWord (o : BitVec 8) (a : BitVec 16) (b : BitVec 32) : rsvField (packWord o a b) = 0#8 := by
  apply BitVec.eq_of_getLsbD_eq
  intro i hi
  simp only [rsvField, packWord, BitVec.getLsbD_extractLsb', BitVec.getLsbD_append]
  rw [if_neg (by omega), if_neg (by omega), if_pos (by omega)]
  simp

@[simp] theorem imm16Field_packWord (o : BitVec 8) (a : BitVec 16) (b : BitVec 32) : imm16Field (packWord o a b) = a := by
  apply BitVec.eq_of_getLsbD_eq
  intro i hi
  simp only [imm16Field, packWord, BitVec.getLsbD_extractLsb', BitVec.getLsbD_append]
  simp only [hi, decide_true, Bool.true_and]
  rw [if_neg (by omega), if_pos (by omega)]
  congr 1; omega

@[simp] theorem imm32Field_packWord (o : BitVec 8) (a : BitVec 16) (b : BitVec 32) : imm32Field (packWord o a b) = b := by
  apply BitVec.eq_of_getLsbD_eq
  intro i hi
  simp only [imm32Field, packWord, BitVec.getLsbD_extractLsb', BitVec.getLsbD_append]
  rw [if_pos (by omega)]
  simp [hi]

/-- A word whose RSV is 0 is its own fields packed. -/
theorem packWord_fields (w : Word) (h : rsvField w = 0#8) : packWord (opField w) (imm16Field w) (imm32Field w) = w := by
  apply BitVec.eq_of_getLsbD_eq
  intro i hi
  unfold packWord
  rw [← h]
  simp only [opField, rsvField, imm16Field, imm32Field, BitVec.getLsbD_append, BitVec.getLsbD_extractLsb']
  split
  · simp [*]
  · split
    · have : i - 32 < 16 := by omega
      simp only [this, decide_true, Bool.true_and]; congr 1; omega
    · split
      · have : i - 32 - 16 < 8 := by omega
        simp only [this, decide_true, Bool.true_and]; congr 1; omega
      · have : i - 32 - 16 - 8 < 8 := by omega
        simp only [this, decide_true, Bool.true_and]; congr 1; omega

/-! ## The decoder on a packed word -/

/-- Decoding a packed word is the opcode map alone. -/
theorem decodeRequest_packWord (o : BitVec 8) (a : BitVec 16) (b : BitVec 32) :
    decodeRequest (packWord o a b) = decodeOp (packWord o a b) := by
  simp [decodeRequest]

/-- A word that decodes has RSV = 0, and its operation is the opcode map's. -/
theorem decodeRequest_ok (w : Word) (i : Instr) (h : decodeRequest w = .ok i) : rsvField w = 0#8 ∧ decodeOp w = .ok i := by
  unfold decodeRequest at h
  split at h
  · exact ⟨‹_›, h⟩
  · cases h

/-- A decoded operation stands in the request space (R304). -/
theorem decodeRequest_space (w : Word) (i : Instr) (h : decodeRequest w = .ok i) : i.space = .request := by
  have hd := (decodeRequest_ok w i h).2
  unfold decodeOp decodeM decodeS decodeZ decodeX at hd
  split at hd <;> (try split at hd) <;> (try split at hd) <;> cases hd <;> rfl

/-- The format checks say exactly which operands a format accepts (R305). -/
theorem decodeS_ok (mk : BitVec 16 → Instr) (w : Word) (i : Instr) :
    decodeS mk w = .ok i ↔ imm32Field w = 0#32 ∧ mk (imm16Field w) = i := by
  unfold decodeS; split <;> simp [*]

theorem decodeZ_ok (j : Instr) (w : Word) (i : Instr) :
    decodeZ j w = .ok i ↔ imm16Field w = 0#16 ∧ imm32Field w = 0#32 ∧ j = i := by
  unfold decodeZ; split
  · split <;> simp [*]
  · simp [*]

theorem decodeX_ok (mk : BitVec 16 → Instr) (w : Word) (i : Instr) :
    decodeX mk w = .ok i ↔ imm32Field w = 0#32 ∧ (imm16Field w).toNat ≤ 6 ∧ mk (imm16Field w) = i := by
  unfold decodeX; split
  · split <;> simp [*]
  · simp [*]

end Sys2Proof
end

