-- ==== Sys2Proof/Laws/State.lean ====
section
/-!
SUPPORT. What each named update of State does to each field: one lemma a field, so that no proof unfolds a record update.
-/

namespace Sys2Proof.Machine

/-! ## emit -/

@[simp] theorem emit_cfg (e : Event) (s : State) : (emit e s).cfg = s.cfg := rfl
@[simp] theorem emit_position (e : Event) (s : State) : (emit e s).position = s.position := rfl
@[simp] theorem emit_target (e : Event) (s : State) : (emit e s).target = s.target := rfl
@[simp] theorem emit_halfPeriod (e : Event) (s : State) : (emit e s).halfPeriod = s.halfPeriod := rfl
@[simp] theorem emit_pulsePhase (e : Event) (s : State) : (emit e s).pulsePhase = s.pulsePhase := rfl
@[simp] theorem emit_nextEventTime (e : Event) (s : State) : (emit e s).nextEventTime = s.nextEventTime := rfl
@[simp] theorem emit_active (e : Event) (s : State) : (emit e s).active = s.active := rfl
@[simp] theorem emit_rampStartPosition (e : Event) (s : State) : (emit e s).rampStartPosition = s.rampStartPosition := rfl
@[simp] theorem emit_rampMidpoint (e : Event) (s : State) : (emit e s).rampMidpoint = s.rampMidpoint := rfl
@[simp] theorem emit_rampPhase (e : Event) (s : State) : (emit e s).rampPhase = s.rampPhase := rfl
@[simp] theorem emit_rampIndex (e : Event) (s : State) : (emit e s).rampIndex = s.rampIndex := rfl
@[simp] theorem emit_rampIterCount (e : Event) (s : State) : (emit e s).rampIterCount = s.rampIterCount := rfl
@[simp] theorem emit_targetHalfPeriod (e : Event) (s : State) : (emit e s).targetHalfPeriod = s.targetHalfPeriod := rfl
@[simp] theorem emit_direction (e : Event) (s : State) : (emit e s).direction = s.direction := rfl
@[simp] theorem emit_slots (e : Event) (s : State) : (emit e s).slots = s.slots := rfl
@[simp] theorem emit_writeIndex (e : Event) (s : State) : (emit e s).writeIndex = s.writeIndex := rfl
@[simp] theorem emit_readIndex (e : Event) (s : State) : (emit e s).readIndex = s.readIndex := rfl
@[simp] theorem emit_currentTarget (e : Event) (s : State) : (emit e s).currentTarget = s.currentTarget := rfl
@[simp] theorem emit_stepOut (e : Event) (s : State) : (emit e s).stepOut = s.stepOut := rfl
@[simp] theorem emit_dirOut (e : Event) (s : State) : (emit e s).dirOut = s.dirOut := rfl
@[simp] theorem emit_enableOut (e : Event) (s : State) : (emit e s).enableOut = s.enableOut := rfl
@[simp] theorem emit_servo (e : Event) (s : State) : (emit e s).servo = s.servo := rfl
@[simp] theorem emit_now (e : Event) (s : State) : (emit e s).now = s.now := rfl
@[simp] theorem emit_timerDeadline (e : Event) (s : State) : (emit e s).timerDeadline = s.timerDeadline := rfl
@[simp] theorem emit_irqPending (e : Event) (s : State) : (emit e s).irqPending = s.irqPending := rfl
@[simp] theorem emit_fgMode (e : Event) (s : State) : (emit e s).fgMode = s.fgMode := rfl
@[simp] theorem emit_settleRemaining (e : Event) (s : State) : (emit e s).settleRemaining = s.settleRemaining := rfl
@[simp] theorem emit_held (e : Event) (s : State) : (emit e s).held = s.held := rfl
@[simp] theorem emit_faults (e : Event) (s : State) : (emit e s).faults = s.faults := rfl
@[simp] theorem emit_trace (e : Event) (s : State) : (emit e s).trace = s.trace ++ [{ event := e, time := s.now }] := rfl
@[simp] theorem emit_requests (e : Event) (s : State) : (emit e s).requests = s.requests := rfl
@[simp] theorem emit_responses (e : Event) (s : State) : (emit e s).responses = s.responses := rfl
@[simp] theorem emit_schedule (e : Event) (s : State) : (emit e s).schedule = s.schedule := rfl
@[simp] theorem emit_turns (e : Event) (s : State) : (emit e s).turns = s.turns := rfl

/-! ## respondWord -/

@[simp] theorem respondWord_cfg (w : Word) (s : State) : (respondWord w s).cfg = s.cfg := rfl
@[simp] theorem respondWord_position (w : Word) (s : State) : (respondWord w s).position = s.position := rfl
@[simp] theorem respondWord_target (w : Word) (s : State) : (respondWord w s).target = s.target := rfl
@[simp] theorem respondWord_halfPeriod (w : Word) (s : State) : (respondWord w s).halfPeriod = s.halfPeriod := rfl
@[simp] theorem respondWord_pulsePhase (w : Word) (s : State) : (respondWord w s).pulsePhase = s.pulsePhase := rfl
@[simp] theorem respondWord_nextEventTime (w : Word) (s : State) : (respondWord w s).nextEventTime = s.nextEventTime := rfl
@[simp] theorem respondWord_active (w : Word) (s : State) : (respondWord w s).active = s.active := rfl
@[simp] theorem respondWord_rampStartPosition (w : Word) (s : State) : (respondWord w s).rampStartPosition = s.rampStartPosition := rfl
@[simp] theorem respondWord_rampMidpoint (w : Word) (s : State) : (respondWord w s).rampMidpoint = s.rampMidpoint := rfl
@[simp] theorem respondWord_rampPhase (w : Word) (s : State) : (respondWord w s).rampPhase = s.rampPhase := rfl
@[simp] theorem respondWord_rampIndex (w : Word) (s : State) : (respondWord w s).rampIndex = s.rampIndex := rfl
@[simp] theorem respondWord_rampIterCount (w : Word) (s : State) : (respondWord w s).rampIterCount = s.rampIterCount := rfl
@[simp] theorem respondWord_targetHalfPeriod (w : Word) (s : State) : (respondWord w s).targetHalfPeriod = s.targetHalfPeriod := rfl
@[simp] theorem respondWord_direction (w : Word) (s : State) : (respondWord w s).direction = s.direction := rfl
@[simp] theorem respondWord_slots (w : Word) (s : State) : (respondWord w s).slots = s.slots := rfl
@[simp] theorem respondWord_writeIndex (w : Word) (s : State) : (respondWord w s).writeIndex = s.writeIndex := rfl
@[simp] theorem respondWord_readIndex (w : Word) (s : State) : (respondWord w s).readIndex = s.readIndex := rfl
@[simp] theorem respondWord_currentTarget (w : Word) (s : State) : (respondWord w s).currentTarget = s.currentTarget := rfl
@[simp] theorem respondWord_stepOut (w : Word) (s : State) : (respondWord w s).stepOut = s.stepOut := rfl
@[simp] theorem respondWord_dirOut (w : Word) (s : State) : (respondWord w s).dirOut = s.dirOut := rfl
@[simp] theorem respondWord_enableOut (w : Word) (s : State) : (respondWord w s).enableOut = s.enableOut := rfl
@[simp] theorem respondWord_servo (w : Word) (s : State) : (respondWord w s).servo = s.servo := rfl
@[simp] theorem respondWord_now (w : Word) (s : State) : (respondWord w s).now = s.now := rfl
@[simp] theorem respondWord_timerDeadline (w : Word) (s : State) : (respondWord w s).timerDeadline = s.timerDeadline := rfl
@[simp] theorem respondWord_irqPending (w : Word) (s : State) : (respondWord w s).irqPending = s.irqPending := rfl
@[simp] theorem respondWord_fgMode (w : Word) (s : State) : (respondWord w s).fgMode = s.fgMode := rfl
@[simp] theorem respondWord_settleRemaining (w : Word) (s : State) : (respondWord w s).settleRemaining = s.settleRemaining := rfl
@[simp] theorem respondWord_held (w : Word) (s : State) : (respondWord w s).held = s.held := rfl
@[simp] theorem respondWord_faults (w : Word) (s : State) : (respondWord w s).faults = s.faults := rfl
@[simp] theorem respondWord_trace (w : Word) (s : State) : (respondWord w s).trace = s.trace := rfl
@[simp] theorem respondWord_requests (w : Word) (s : State) : (respondWord w s).requests = s.requests := rfl
@[simp] theorem respondWord_responses (w : Word) (s : State) : (respondWord w s).responses = s.responses ++ [w] := rfl
@[simp] theorem respondWord_schedule (w : Word) (s : State) : (respondWord w s).schedule = s.schedule := rfl
@[simp] theorem respondWord_turns (w : Word) (s : State) : (respondWord w s).turns = s.turns := rfl

/-! ## respond -/

@[simp] theorem respond_cfg (c : ResultCode) (v : BitVec 32) (s : State) : (respond c v s).cfg = s.cfg := rfl
@[simp] theorem respond_position (c : ResultCode) (v : BitVec 32) (s : State) : (respond c v s).position = s.position := rfl
@[simp] theorem respond_target (c : ResultCode) (v : BitVec 32) (s : State) : (respond c v s).target = s.target := rfl
@[simp] theorem respond_halfPeriod (c : ResultCode) (v : BitVec 32) (s : State) : (respond c v s).halfPeriod = s.halfPeriod := rfl
@[simp] theorem respond_pulsePhase (c : ResultCode) (v : BitVec 32) (s : State) : (respond c v s).pulsePhase = s.pulsePhase := rfl
@[simp] theorem respond_nextEventTime (c : ResultCode) (v : BitVec 32) (s : State) : (respond c v s).nextEventTime = s.nextEventTime := rfl
@[simp] theorem respond_active (c : ResultCode) (v : BitVec 32) (s : State) : (respond c v s).active = s.active := rfl
@[simp] theorem respond_rampStartPosition (c : ResultCode) (v : BitVec 32) (s : State) : (respond c v s).rampStartPosition = s.rampStartPosition := rfl
@[simp] theorem respond_rampMidpoint (c : ResultCode) (v : BitVec 32) (s : State) : (respond c v s).rampMidpoint = s.rampMidpoint := rfl
@[simp] theorem respond_rampPhase (c : ResultCode) (v : BitVec 32) (s : State) : (respond c v s).rampPhase = s.rampPhase := rfl
@[simp] theorem respond_rampIndex (c : ResultCode) (v : BitVec 32) (s : State) : (respond c v s).rampIndex = s.rampIndex := rfl
@[simp] theorem respond_rampIterCount (c : ResultCode) (v : BitVec 32) (s : State) : (respond c v s).rampIterCount = s.rampIterCount := rfl
@[simp] theorem respond_targetHalfPeriod (c : ResultCode) (v : BitVec 32) (s : State) : (respond c v s).targetHalfPeriod = s.targetHalfPeriod := rfl
@[simp] theorem respond_direction (c : ResultCode) (v : BitVec 32) (s : State) : (respond c v s).direction = s.direction := rfl
@[simp] theorem respond_slots (c : ResultCode) (v : BitVec 32) (s : State) : (respond c v s).slots = s.slots := rfl
@[simp] theorem respond_writeIndex (c : ResultCode) (v : BitVec 32) (s : State) : (respond c v s).writeIndex = s.writeIndex := rfl
@[simp] theorem respond_readIndex (c : ResultCode) (v : BitVec 32) (s : State) : (respond c v s).readIndex = s.readIndex := rfl
@[simp] theorem respond_currentTarget (c : ResultCode) (v : BitVec 32) (s : State) : (respond c v s).currentTarget = s.currentTarget := rfl
@[simp] theorem respond_stepOut (c : ResultCode) (v : BitVec 32) (s : State) : (respond c v s).stepOut = s.stepOut := rfl
@[simp] theorem respond_dirOut (c : ResultCode) (v : BitVec 32) (s : State) : (respond c v s).dirOut = s.dirOut := rfl
@[simp] theorem respond_enableOut (c : ResultCode) (v : BitVec 32) (s : State) : (respond c v s).enableOut = s.enableOut := rfl
@[simp] theorem respond_servo (c : ResultCode) (v : BitVec 32) (s : State) : (respond c v s).servo = s.servo := rfl
@[simp] theorem respond_now (c : ResultCode) (v : BitVec 32) (s : State) : (respond c v s).now = s.now := rfl
@[simp] theorem respond_timerDeadline (c : ResultCode) (v : BitVec 32) (s : State) : (respond c v s).timerDeadline = s.timerDeadline := rfl
@[simp] theorem respond_irqPending (c : ResultCode) (v : BitVec 32) (s : State) : (respond c v s).irqPending = s.irqPending := rfl
@[simp] theorem respond_fgMode (c : ResultCode) (v : BitVec 32) (s : State) : (respond c v s).fgMode = s.fgMode := rfl
@[simp] theorem respond_settleRemaining (c : ResultCode) (v : BitVec 32) (s : State) : (respond c v s).settleRemaining = s.settleRemaining := rfl
@[simp] theorem respond_held (c : ResultCode) (v : BitVec 32) (s : State) : (respond c v s).held = s.held := rfl
@[simp] theorem respond_faults (c : ResultCode) (v : BitVec 32) (s : State) : (respond c v s).faults = s.faults := rfl
@[simp] theorem respond_trace (c : ResultCode) (v : BitVec 32) (s : State) : (respond c v s).trace = s.trace := rfl
@[simp] theorem respond_requests (c : ResultCode) (v : BitVec 32) (s : State) : (respond c v s).requests = s.requests := rfl
@[simp] theorem respond_responses (c : ResultCode) (v : BitVec 32) (s : State) : (respond c v s).responses = s.responses ++ [responseWord c v] := rfl
@[simp] theorem respond_schedule (c : ResultCode) (v : BitVec 32) (s : State) : (respond c v s).schedule = s.schedule := rfl
@[simp] theorem respond_turns (c : ResultCode) (v : BitVec 32) (s : State) : (respond c v s).turns = s.turns := rfl

/-! ## slotWrite -/

@[simp] theorem slotWrite_cfg (i : Nat) (w : Word) (s : State) : (slotWrite i w s).cfg = s.cfg := rfl
@[simp] theorem slotWrite_position (i : Nat) (w : Word) (s : State) : (slotWrite i w s).position = s.position := rfl
@[simp] theorem slotWrite_target (i : Nat) (w : Word) (s : State) : (slotWrite i w s).target = s.target := rfl
@[simp] theorem slotWrite_halfPeriod (i : Nat) (w : Word) (s : State) : (slotWrite i w s).halfPeriod = s.halfPeriod := rfl
@[simp] theorem slotWrite_pulsePhase (i : Nat) (w : Word) (s : State) : (slotWrite i w s).pulsePhase = s.pulsePhase := rfl
@[simp] theorem slotWrite_nextEventTime (i : Nat) (w : Word) (s : State) : (slotWrite i w s).nextEventTime = s.nextEventTime := rfl
@[simp] theorem slotWrite_active (i : Nat) (w : Word) (s : State) : (slotWrite i w s).active = s.active := rfl
@[simp] theorem slotWrite_rampStartPosition (i : Nat) (w : Word) (s : State) : (slotWrite i w s).rampStartPosition = s.rampStartPosition := rfl
@[simp] theorem slotWrite_rampMidpoint (i : Nat) (w : Word) (s : State) : (slotWrite i w s).rampMidpoint = s.rampMidpoint := rfl
@[simp] theorem slotWrite_rampPhase (i : Nat) (w : Word) (s : State) : (slotWrite i w s).rampPhase = s.rampPhase := rfl
@[simp] theorem slotWrite_rampIndex (i : Nat) (w : Word) (s : State) : (slotWrite i w s).rampIndex = s.rampIndex := rfl
@[simp] theorem slotWrite_rampIterCount (i : Nat) (w : Word) (s : State) : (slotWrite i w s).rampIterCount = s.rampIterCount := rfl
@[simp] theorem slotWrite_targetHalfPeriod (i : Nat) (w : Word) (s : State) : (slotWrite i w s).targetHalfPeriod = s.targetHalfPeriod := rfl
@[simp] theorem slotWrite_direction (i : Nat) (w : Word) (s : State) : (slotWrite i w s).direction = s.direction := rfl
@[simp] theorem slotWrite_slots (i : Nat) (w : Word) (s : State) : (slotWrite i w s).slots = Memory.write s.slots (slotOf s i) w := rfl
@[simp] theorem slotWrite_writeIndex (i : Nat) (w : Word) (s : State) : (slotWrite i w s).writeIndex = s.writeIndex := rfl
@[simp] theorem slotWrite_readIndex (i : Nat) (w : Word) (s : State) : (slotWrite i w s).readIndex = s.readIndex := rfl
@[simp] theorem slotWrite_currentTarget (i : Nat) (w : Word) (s : State) : (slotWrite i w s).currentTarget = s.currentTarget := rfl
@[simp] theorem slotWrite_stepOut (i : Nat) (w : Word) (s : State) : (slotWrite i w s).stepOut = s.stepOut := rfl
@[simp] theorem slotWrite_dirOut (i : Nat) (w : Word) (s : State) : (slotWrite i w s).dirOut = s.dirOut := rfl
@[simp] theorem slotWrite_enableOut (i : Nat) (w : Word) (s : State) : (slotWrite i w s).enableOut = s.enableOut := rfl
@[simp] theorem slotWrite_servo (i : Nat) (w : Word) (s : State) : (slotWrite i w s).servo = s.servo := rfl
@[simp] theorem slotWrite_now (i : Nat) (w : Word) (s : State) : (slotWrite i w s).now = s.now := rfl
@[simp] theorem slotWrite_timerDeadline (i : Nat) (w : Word) (s : State) : (slotWrite i w s).timerDeadline = s.timerDeadline := rfl
@[simp] theorem slotWrite_irqPending (i : Nat) (w : Word) (s : State) : (slotWrite i w s).irqPending = s.irqPending := rfl
@[simp] theorem slotWrite_fgMode (i : Nat) (w : Word) (s : State) : (slotWrite i w s).fgMode = s.fgMode := rfl
@[simp] theorem slotWrite_settleRemaining (i : Nat) (w : Word) (s : State) : (slotWrite i w s).settleRemaining = s.settleRemaining := rfl
@[simp] theorem slotWrite_held (i : Nat) (w : Word) (s : State) : (slotWrite i w s).held = s.held := rfl
@[simp] theorem slotWrite_faults (i : Nat) (w : Word) (s : State) : (slotWrite i w s).faults = s.faults := rfl
@[simp] theorem slotWrite_trace (i : Nat) (w : Word) (s : State) : (slotWrite i w s).trace = s.trace := rfl
@[simp] theorem slotWrite_requests (i : Nat) (w : Word) (s : State) : (slotWrite i w s).requests = s.requests := rfl
@[simp] theorem slotWrite_responses (i : Nat) (w : Word) (s : State) : (slotWrite i w s).responses = s.responses := rfl
@[simp] theorem slotWrite_schedule (i : Nat) (w : Word) (s : State) : (slotWrite i w s).schedule = s.schedule := rfl
@[simp] theorem slotWrite_turns (i : Nat) (w : Word) (s : State) : (slotWrite i w s).turns = s.turns := rfl

/-! ## clearQueue -/

@[simp] theorem clearQueue_cfg (s : State) : (clearQueue s).cfg = s.cfg := rfl
@[simp] theorem clearQueue_position (s : State) : (clearQueue s).position = s.position := rfl
@[simp] theorem clearQueue_target (s : State) : (clearQueue s).target = s.target := rfl
@[simp] theorem clearQueue_halfPeriod (s : State) : (clearQueue s).halfPeriod = s.halfPeriod := rfl
@[simp] theorem clearQueue_pulsePhase (s : State) : (clearQueue s).pulsePhase = s.pulsePhase := rfl
@[simp] theorem clearQueue_nextEventTime (s : State) : (clearQueue s).nextEventTime = s.nextEventTime := rfl
@[simp] theorem clearQueue_active (s : State) : (clearQueue s).active = s.active := rfl
@[simp] theorem clearQueue_rampStartPosition (s : State) : (clearQueue s).rampStartPosition = s.rampStartPosition := rfl
@[simp] theorem clearQueue_rampMidpoint (s : State) : (clearQueue s).rampMidpoint = s.rampMidpoint := rfl
@[simp] theorem clearQueue_rampPhase (s : State) : (clearQueue s).rampPhase = s.rampPhase := rfl
@[simp] theorem clearQueue_rampIndex (s : State) : (clearQueue s).rampIndex = s.rampIndex := rfl
@[simp] theorem clearQueue_rampIterCount (s : State) : (clearQueue s).rampIterCount = s.rampIterCount := rfl
@[simp] theorem clearQueue_targetHalfPeriod (s : State) : (clearQueue s).targetHalfPeriod = s.targetHalfPeriod := rfl
@[simp] theorem clearQueue_direction (s : State) : (clearQueue s).direction = s.direction := rfl
@[simp] theorem clearQueue_slots (s : State) : (clearQueue s).slots = s.slots := rfl
@[simp] theorem clearQueue_writeIndex (s : State) : (clearQueue s).writeIndex = 0 := rfl
@[simp] theorem clearQueue_readIndex (s : State) : (clearQueue s).readIndex = 0 := rfl
@[simp] theorem clearQueue_currentTarget (s : State) : (clearQueue s).currentTarget = s.currentTarget := rfl
@[simp] theorem clearQueue_stepOut (s : State) : (clearQueue s).stepOut = s.stepOut := rfl
@[simp] theorem clearQueue_dirOut (s : State) : (clearQueue s).dirOut = s.dirOut := rfl
@[simp] theorem clearQueue_enableOut (s : State) : (clearQueue s).enableOut = s.enableOut := rfl
@[simp] theorem clearQueue_servo (s : State) : (clearQueue s).servo = s.servo := rfl
@[simp] theorem clearQueue_now (s : State) : (clearQueue s).now = s.now := rfl
@[simp] theorem clearQueue_timerDeadline (s : State) : (clearQueue s).timerDeadline = s.timerDeadline := rfl
@[simp] theorem clearQueue_irqPending (s : State) : (clearQueue s).irqPending = s.irqPending := rfl
@[simp] theorem clearQueue_fgMode (s : State) : (clearQueue s).fgMode = s.fgMode := rfl
@[simp] theorem clearQueue_settleRemaining (s : State) : (clearQueue s).settleRemaining = s.settleRemaining := rfl
@[simp] theorem clearQueue_held (s : State) : (clearQueue s).held = s.held := rfl
@[simp] theorem clearQueue_faults (s : State) : (clearQueue s).faults = s.faults := rfl
@[simp] theorem clearQueue_trace (s : State) : (clearQueue s).trace = s.trace := rfl
@[simp] theorem clearQueue_requests (s : State) : (clearQueue s).requests = s.requests := rfl
@[simp] theorem clearQueue_responses (s : State) : (clearQueue s).responses = s.responses := rfl
@[simp] theorem clearQueue_schedule (s : State) : (clearQueue s).schedule = s.schedule := rfl
@[simp] theorem clearQueue_turns (s : State) : (clearQueue s).turns = s.turns := rfl

/-! ## holdResponse -/

@[simp] theorem holdResponse_cfg (c : ResultCode) (v : BitVec 32) (s : State) : (holdResponse c v s).cfg = s.cfg := rfl
@[simp] theorem holdResponse_position (c : ResultCode) (v : BitVec 32) (s : State) : (holdResponse c v s).position = s.position := rfl
@[simp] theorem holdResponse_target (c : ResultCode) (v : BitVec 32) (s : State) : (holdResponse c v s).target = s.target := rfl
@[simp] theorem holdResponse_halfPeriod (c : ResultCode) (v : BitVec 32) (s : State) : (holdResponse c v s).halfPeriod = s.halfPeriod := rfl
@[simp] theorem holdResponse_pulsePhase (c : ResultCode) (v : BitVec 32) (s : State) : (holdResponse c v s).pulsePhase = s.pulsePhase := rfl
@[simp] theorem holdResponse_nextEventTime (c : ResultCode) (v : BitVec 32) (s : State) : (holdResponse c v s).nextEventTime = s.nextEventTime := rfl
@[simp] theorem holdResponse_active (c : ResultCode) (v : BitVec 32) (s : State) : (holdResponse c v s).active = s.active := rfl
@[simp] theorem holdResponse_rampStartPosition (c : ResultCode) (v : BitVec 32) (s : State) : (holdResponse c v s).rampStartPosition = s.rampStartPosition := rfl
@[simp] theorem holdResponse_rampMidpoint (c : ResultCode) (v : BitVec 32) (s : State) : (holdResponse c v s).rampMidpoint = s.rampMidpoint := rfl
@[simp] theorem holdResponse_rampPhase (c : ResultCode) (v : BitVec 32) (s : State) : (holdResponse c v s).rampPhase = s.rampPhase := rfl
@[simp] theorem holdResponse_rampIndex (c : ResultCode) (v : BitVec 32) (s : State) : (holdResponse c v s).rampIndex = s.rampIndex := rfl
@[simp] theorem holdResponse_rampIterCount (c : ResultCode) (v : BitVec 32) (s : State) : (holdResponse c v s).rampIterCount = s.rampIterCount := rfl
@[simp] theorem holdResponse_targetHalfPeriod (c : ResultCode) (v : BitVec 32) (s : State) : (holdResponse c v s).targetHalfPeriod = s.targetHalfPeriod := rfl
@[simp] theorem holdResponse_direction (c : ResultCode) (v : BitVec 32) (s : State) : (holdResponse c v s).direction = s.direction := rfl
@[simp] theorem holdResponse_slots (c : ResultCode) (v : BitVec 32) (s : State) : (holdResponse c v s).slots = s.slots := rfl
@[simp] theorem holdResponse_writeIndex (c : ResultCode) (v : BitVec 32) (s : State) : (holdResponse c v s).writeIndex = s.writeIndex := rfl
@[simp] theorem holdResponse_readIndex (c : ResultCode) (v : BitVec 32) (s : State) : (holdResponse c v s).readIndex = s.readIndex := rfl
@[simp] theorem holdResponse_currentTarget (c : ResultCode) (v : BitVec 32) (s : State) : (holdResponse c v s).currentTarget = s.currentTarget := rfl
@[simp] theorem holdResponse_stepOut (c : ResultCode) (v : BitVec 32) (s : State) : (holdResponse c v s).stepOut = s.stepOut := rfl
@[simp] theorem holdResponse_dirOut (c : ResultCode) (v : BitVec 32) (s : State) : (holdResponse c v s).dirOut = s.dirOut := rfl
@[simp] theorem holdResponse_enableOut (c : ResultCode) (v : BitVec 32) (s : State) : (holdResponse c v s).enableOut = s.enableOut := rfl
@[simp] theorem holdResponse_servo (c : ResultCode) (v : BitVec 32) (s : State) : (holdResponse c v s).servo = s.servo := rfl
@[simp] theorem holdResponse_now (c : ResultCode) (v : BitVec 32) (s : State) : (holdResponse c v s).now = s.now := rfl
@[simp] theorem holdResponse_timerDeadline (c : ResultCode) (v : BitVec 32) (s : State) : (holdResponse c v s).timerDeadline = s.timerDeadline := rfl
@[simp] theorem holdResponse_irqPending (c : ResultCode) (v : BitVec 32) (s : State) : (holdResponse c v s).irqPending = s.irqPending := rfl
@[simp] theorem holdResponse_fgMode (c : ResultCode) (v : BitVec 32) (s : State) : (holdResponse c v s).fgMode = s.fgMode := rfl
@[simp] theorem holdResponse_settleRemaining (c : ResultCode) (v : BitVec 32) (s : State) : (holdResponse c v s).settleRemaining = s.settleRemaining := rfl
@[simp] theorem holdResponse_held (c : ResultCode) (v : BitVec 32) (s : State) : (holdResponse c v s).held = responseWord c v := rfl
@[simp] theorem holdResponse_faults (c : ResultCode) (v : BitVec 32) (s : State) : (holdResponse c v s).faults = s.faults := rfl
@[simp] theorem holdResponse_trace (c : ResultCode) (v : BitVec 32) (s : State) : (holdResponse c v s).trace = s.trace := rfl
@[simp] theorem holdResponse_requests (c : ResultCode) (v : BitVec 32) (s : State) : (holdResponse c v s).requests = s.requests := rfl
@[simp] theorem holdResponse_responses (c : ResultCode) (v : BitVec 32) (s : State) : (holdResponse c v s).responses = s.responses := rfl
@[simp] theorem holdResponse_schedule (c : ResultCode) (v : BitVec 32) (s : State) : (holdResponse c v s).schedule = s.schedule := rfl
@[simp] theorem holdResponse_turns (c : ResultCode) (v : BitVec 32) (s : State) : (holdResponse c v s).turns = s.turns := rfl

/-! ## setEnable -/

@[simp] theorem setEnable_cfg (b : Bool) (s : State) : (setEnable b s).cfg = s.cfg := rfl
@[simp] theorem setEnable_position (b : Bool) (s : State) : (setEnable b s).position = s.position := rfl
@[simp] theorem setEnable_target (b : Bool) (s : State) : (setEnable b s).target = s.target := rfl
@[simp] theorem setEnable_halfPeriod (b : Bool) (s : State) : (setEnable b s).halfPeriod = s.halfPeriod := rfl
@[simp] theorem setEnable_pulsePhase (b : Bool) (s : State) : (setEnable b s).pulsePhase = s.pulsePhase := rfl
@[simp] theorem setEnable_nextEventTime (b : Bool) (s : State) : (setEnable b s).nextEventTime = s.nextEventTime := rfl
@[simp] theorem setEnable_active (b : Bool) (s : State) : (setEnable b s).active = s.active := rfl
@[simp] theorem setEnable_rampStartPosition (b : Bool) (s : State) : (setEnable b s).rampStartPosition = s.rampStartPosition := rfl
@[simp] theorem setEnable_rampMidpoint (b : Bool) (s : State) : (setEnable b s).rampMidpoint = s.rampMidpoint := rfl
@[simp] theorem setEnable_rampPhase (b : Bool) (s : State) : (setEnable b s).rampPhase = s.rampPhase := rfl
@[simp] theorem setEnable_rampIndex (b : Bool) (s : State) : (setEnable b s).rampIndex = s.rampIndex := rfl
@[simp] theorem setEnable_rampIterCount (b : Bool) (s : State) : (setEnable b s).rampIterCount = s.rampIterCount := rfl
@[simp] theorem setEnable_targetHalfPeriod (b : Bool) (s : State) : (setEnable b s).targetHalfPeriod = s.targetHalfPeriod := rfl
@[simp] theorem setEnable_direction (b : Bool) (s : State) : (setEnable b s).direction = s.direction := rfl
@[simp] theorem setEnable_slots (b : Bool) (s : State) : (setEnable b s).slots = s.slots := rfl
@[simp] theorem setEnable_writeIndex (b : Bool) (s : State) : (setEnable b s).writeIndex = s.writeIndex := rfl
@[simp] theorem setEnable_readIndex (b : Bool) (s : State) : (setEnable b s).readIndex = s.readIndex := rfl
@[simp] theorem setEnable_currentTarget (b : Bool) (s : State) : (setEnable b s).currentTarget = s.currentTarget := rfl
@[simp] theorem setEnable_stepOut (b : Bool) (s : State) : (setEnable b s).stepOut = s.stepOut := rfl
@[simp] theorem setEnable_dirOut (b : Bool) (s : State) : (setEnable b s).dirOut = s.dirOut := rfl
@[simp] theorem setEnable_enableOut (b : Bool) (s : State) : (setEnable b s).enableOut = b := rfl
@[simp] theorem setEnable_servo (b : Bool) (s : State) : (setEnable b s).servo = s.servo := rfl
@[simp] theorem setEnable_now (b : Bool) (s : State) : (setEnable b s).now = s.now := rfl
@[simp] theorem setEnable_timerDeadline (b : Bool) (s : State) : (setEnable b s).timerDeadline = s.timerDeadline := rfl
@[simp] theorem setEnable_irqPending (b : Bool) (s : State) : (setEnable b s).irqPending = s.irqPending := rfl
@[simp] theorem setEnable_fgMode (b : Bool) (s : State) : (setEnable b s).fgMode = s.fgMode := rfl
@[simp] theorem setEnable_settleRemaining (b : Bool) (s : State) : (setEnable b s).settleRemaining = s.settleRemaining := rfl
@[simp] theorem setEnable_held (b : Bool) (s : State) : (setEnable b s).held = s.held := rfl
@[simp] theorem setEnable_faults (b : Bool) (s : State) : (setEnable b s).faults = s.faults := rfl
@[simp] theorem setEnable_trace (b : Bool) (s : State) : (setEnable b s).trace = s.trace ++ [{ event := .enable b, time := s.now }] := rfl
@[simp] theorem setEnable_requests (b : Bool) (s : State) : (setEnable b s).requests = s.requests := rfl
@[simp] theorem setEnable_responses (b : Bool) (s : State) : (setEnable b s).responses = s.responses := rfl
@[simp] theorem setEnable_schedule (b : Bool) (s : State) : (setEnable b s).schedule = s.schedule := rfl
@[simp] theorem setEnable_turns (b : Bool) (s : State) : (setEnable b s).turns = s.turns := rfl

/-! ## setDirection -/

@[simp] theorem setDirection_cfg (d : Direction) (s : State) : (setDirection d s).cfg = s.cfg := rfl
@[simp] theorem setDirection_position (d : Direction) (s : State) : (setDirection d s).position = s.position := rfl
@[simp] theorem setDirection_target (d : Direction) (s : State) : (setDirection d s).target = s.target := rfl
@[simp] theorem setDirection_halfPeriod (d : Direction) (s : State) : (setDirection d s).halfPeriod = s.halfPeriod := rfl
@[simp] theorem setDirection_pulsePhase (d : Direction) (s : State) : (setDirection d s).pulsePhase = s.pulsePhase := rfl
@[simp] theorem setDirection_nextEventTime (d : Direction) (s : State) : (setDirection d s).nextEventTime = s.nextEventTime := rfl
@[simp] theorem setDirection_active (d : Direction) (s : State) : (setDirection d s).active = s.active := rfl
@[simp] theorem setDirection_rampStartPosition (d : Direction) (s : State) : (setDirection d s).rampStartPosition = s.rampStartPosition := rfl
@[simp] theorem setDirection_rampMidpoint (d : Direction) (s : State) : (setDirection d s).rampMidpoint = s.rampMidpoint := rfl
@[simp] theorem setDirection_rampPhase (d : Direction) (s : State) : (setDirection d s).rampPhase = s.rampPhase := rfl
@[simp] theorem setDirection_rampIndex (d : Direction) (s : State) : (setDirection d s).rampIndex = s.rampIndex := rfl
@[simp] theorem setDirection_rampIterCount (d : Direction) (s : State) : (setDirection d s).rampIterCount = s.rampIterCount := rfl
@[simp] theorem setDirection_targetHalfPeriod (d : Direction) (s : State) : (setDirection d s).targetHalfPeriod = s.targetHalfPeriod := rfl
@[simp] theorem setDirection_direction (d : Direction) (s : State) : (setDirection d s).direction = d := rfl
@[simp] theorem setDirection_slots (d : Direction) (s : State) : (setDirection d s).slots = s.slots := rfl
@[simp] theorem setDirection_writeIndex (d : Direction) (s : State) : (setDirection d s).writeIndex = s.writeIndex := rfl
@[simp] theorem setDirection_readIndex (d : Direction) (s : State) : (setDirection d s).readIndex = s.readIndex := rfl
@[simp] theorem setDirection_currentTarget (d : Direction) (s : State) : (setDirection d s).currentTarget = s.currentTarget := rfl
@[simp] theorem setDirection_stepOut (d : Direction) (s : State) : (setDirection d s).stepOut = s.stepOut := rfl
@[simp] theorem setDirection_dirOut (d : Direction) (s : State) : (setDirection d s).dirOut = decide (d = .forward) := rfl
@[simp] theorem setDirection_enableOut (d : Direction) (s : State) : (setDirection d s).enableOut = s.enableOut := rfl
@[simp] theorem setDirection_servo (d : Direction) (s : State) : (setDirection d s).servo = s.servo := rfl
@[simp] theorem setDirection_now (d : Direction) (s : State) : (setDirection d s).now = s.now := rfl
@[simp] theorem setDirection_timerDeadline (d : Direction) (s : State) : (setDirection d s).timerDeadline = s.timerDeadline := rfl
@[simp] theorem setDirection_irqPending (d : Direction) (s : State) : (setDirection d s).irqPending = s.irqPending := rfl
@[simp] theorem setDirection_fgMode (d : Direction) (s : State) : (setDirection d s).fgMode = s.fgMode := rfl
@[simp] theorem setDirection_settleRemaining (d : Direction) (s : State) : (setDirection d s).settleRemaining = s.settleRemaining := rfl
@[simp] theorem setDirection_held (d : Direction) (s : State) : (setDirection d s).held = s.held := rfl
@[simp] theorem setDirection_faults (d : Direction) (s : State) : (setDirection d s).faults = s.faults := rfl
@[simp] theorem setDirection_trace (d : Direction) (s : State) : (setDirection d s).trace = s.trace ++ [{ event := .dir (decide (d = .forward)), time := s.now }] := rfl
@[simp] theorem setDirection_requests (d : Direction) (s : State) : (setDirection d s).requests = s.requests := rfl
@[simp] theorem setDirection_responses (d : Direction) (s : State) : (setDirection d s).responses = s.responses := rfl
@[simp] theorem setDirection_schedule (d : Direction) (s : State) : (setDirection d s).schedule = s.schedule := rfl
@[simp] theorem setDirection_turns (d : Direction) (s : State) : (setDirection d s).turns = s.turns := rfl

/-! ## lowerStep -/

@[simp] theorem lowerStep_cfg (s : State) : (lowerStep s).cfg = s.cfg := rfl
@[simp] theorem lowerStep_position (s : State) : (lowerStep s).position = s.position := rfl
@[simp] theorem lowerStep_target (s : State) : (lowerStep s).target = s.target := rfl
@[simp] theorem lowerStep_halfPeriod (s : State) : (lowerStep s).halfPeriod = s.halfPeriod := rfl
@[simp] theorem lowerStep_pulsePhase (s : State) : (lowerStep s).pulsePhase = false := rfl
@[simp] theorem lowerStep_nextEventTime (s : State) : (lowerStep s).nextEventTime = s.nextEventTime := rfl
@[simp] theorem lowerStep_active (s : State) : (lowerStep s).active = s.active := rfl
@[simp] theorem lowerStep_rampStartPosition (s : State) : (lowerStep s).rampStartPosition = s.rampStartPosition := rfl
@[simp] theorem lowerStep_rampMidpoint (s : State) : (lowerStep s).rampMidpoint = s.rampMidpoint := rfl
@[simp] theorem lowerStep_rampPhase (s : State) : (lowerStep s).rampPhase = s.rampPhase := rfl
@[simp] theorem lowerStep_rampIndex (s : State) : (lowerStep s).rampIndex = s.rampIndex := rfl
@[simp] theorem lowerStep_rampIterCount (s : State) : (lowerStep s).rampIterCount = s.rampIterCount := rfl
@[simp] theorem lowerStep_targetHalfPeriod (s : State) : (lowerStep s).targetHalfPeriod = s.targetHalfPeriod := rfl
@[simp] theorem lowerStep_direction (s : State) : (lowerStep s).direction = s.direction := rfl
@[simp] theorem lowerStep_slots (s : State) : (lowerStep s).slots = s.slots := rfl
@[simp] theorem lowerStep_writeIndex (s : State) : (lowerStep s).writeIndex = s.writeIndex := rfl
@[simp] theorem lowerStep_readIndex (s : State) : (lowerStep s).readIndex = s.readIndex := rfl
@[simp] theorem lowerStep_currentTarget (s : State) : (lowerStep s).currentTarget = s.currentTarget := rfl
@[simp] theorem lowerStep_stepOut (s : State) : (lowerStep s).stepOut = false := rfl
@[simp] theorem lowerStep_dirOut (s : State) : (lowerStep s).dirOut = s.dirOut := rfl
@[simp] theorem lowerStep_enableOut (s : State) : (lowerStep s).enableOut = s.enableOut := rfl
@[simp] theorem lowerStep_servo (s : State) : (lowerStep s).servo = s.servo := rfl
@[simp] theorem lowerStep_now (s : State) : (lowerStep s).now = s.now := rfl
@[simp] theorem lowerStep_timerDeadline (s : State) : (lowerStep s).timerDeadline = s.timerDeadline := rfl
@[simp] theorem lowerStep_irqPending (s : State) : (lowerStep s).irqPending = s.irqPending := rfl
@[simp] theorem lowerStep_fgMode (s : State) : (lowerStep s).fgMode = s.fgMode := rfl
@[simp] theorem lowerStep_settleRemaining (s : State) : (lowerStep s).settleRemaining = s.settleRemaining := rfl
@[simp] theorem lowerStep_held (s : State) : (lowerStep s).held = s.held := rfl
@[simp] theorem lowerStep_faults (s : State) : (lowerStep s).faults = s.faults := rfl
@[simp] theorem lowerStep_trace (s : State) : (lowerStep s).trace = s.trace ++ [{ event := .stepFall, time := s.now }] := rfl
@[simp] theorem lowerStep_requests (s : State) : (lowerStep s).requests = s.requests := rfl
@[simp] theorem lowerStep_responses (s : State) : (lowerStep s).responses = s.responses := rfl
@[simp] theorem lowerStep_schedule (s : State) : (lowerStep s).schedule = s.schedule := rfl
@[simp] theorem lowerStep_turns (s : State) : (lowerStep s).turns = s.turns := rfl

/-! ## clearRamp -/

@[simp] theorem clearRamp_cfg (s : State) : (clearRamp s).cfg = s.cfg := rfl
@[simp] theorem clearRamp_position (s : State) : (clearRamp s).position = s.position := rfl
@[simp] theorem clearRamp_target (s : State) : (clearRamp s).target = s.target := rfl
@[simp] theorem clearRamp_halfPeriod (s : State) : (clearRamp s).halfPeriod = s.halfPeriod := rfl
@[simp] theorem clearRamp_pulsePhase (s : State) : (clearRamp s).pulsePhase = s.pulsePhase := rfl
@[simp] theorem clearRamp_nextEventTime (s : State) : (clearRamp s).nextEventTime = s.nextEventTime := rfl
@[simp] theorem clearRamp_active (s : State) : (clearRamp s).active = s.active := rfl
@[simp] theorem clearRamp_rampStartPosition (s : State) : (clearRamp s).rampStartPosition = s.rampStartPosition := rfl
@[simp] theorem clearRamp_rampMidpoint (s : State) : (clearRamp s).rampMidpoint = s.rampMidpoint := rfl
@[simp] theorem clearRamp_rampPhase (s : State) : (clearRamp s).rampPhase = .none := rfl
@[simp] theorem clearRamp_rampIndex (s : State) : (clearRamp s).rampIndex = 0 := rfl
@[simp] theorem clearRamp_rampIterCount (s : State) : (clearRamp s).rampIterCount = 0#16 := rfl
@[simp] theorem clearRamp_targetHalfPeriod (s : State) : (clearRamp s).targetHalfPeriod = s.targetHalfPeriod := rfl
@[simp] theorem clearRamp_direction (s : State) : (clearRamp s).direction = s.direction := rfl
@[simp] theorem clearRamp_slots (s : State) : (clearRamp s).slots = s.slots := rfl
@[simp] theorem clearRamp_writeIndex (s : State) : (clearRamp s).writeIndex = s.writeIndex := rfl
@[simp] theorem clearRamp_readIndex (s : State) : (clearRamp s).readIndex = s.readIndex := rfl
@[simp] theorem clearRamp_currentTarget (s : State) : (clearRamp s).currentTarget = s.currentTarget := rfl
@[simp] theorem clearRamp_stepOut (s : State) : (clearRamp s).stepOut = s.stepOut := rfl
@[simp] theorem clearRamp_dirOut (s : State) : (clearRamp s).dirOut = s.dirOut := rfl
@[simp] theorem clearRamp_enableOut (s : State) : (clearRamp s).enableOut = s.enableOut := rfl
@[simp] theorem clearRamp_servo (s : State) : (clearRamp s).servo = s.servo := rfl
@[simp] theorem clearRamp_now (s : State) : (clearRamp s).now = s.now := rfl
@[simp] theorem clearRamp_timerDeadline (s : State) : (clearRamp s).timerDeadline = s.timerDeadline := rfl
@[simp] theorem clearRamp_irqPending (s : State) : (clearRamp s).irqPending = s.irqPending := rfl
@[simp] theorem clearRamp_fgMode (s : State) : (clearRamp s).fgMode = s.fgMode := rfl
@[simp] theorem clearRamp_settleRemaining (s : State) : (clearRamp s).settleRemaining = s.settleRemaining := rfl
@[simp] theorem clearRamp_held (s : State) : (clearRamp s).held = s.held := rfl
@[simp] theorem clearRamp_faults (s : State) : (clearRamp s).faults = s.faults := rfl
@[simp] theorem clearRamp_trace (s : State) : (clearRamp s).trace = s.trace := rfl
@[simp] theorem clearRamp_requests (s : State) : (clearRamp s).requests = s.requests := rfl
@[simp] theorem clearRamp_responses (s : State) : (clearRamp s).responses = s.responses := rfl
@[simp] theorem clearRamp_schedule (s : State) : (clearRamp s).schedule = s.schedule := rfl
@[simp] theorem clearRamp_turns (s : State) : (clearRamp s).turns = s.turns := rfl

/-! ## accumulateDeadline -/

@[simp] theorem accumulateDeadline_cfg (s : State) : (accumulateDeadline s).cfg = s.cfg := rfl
@[simp] theorem accumulateDeadline_position (s : State) : (accumulateDeadline s).position = s.position := rfl
@[simp] theorem accumulateDeadline_target (s : State) : (accumulateDeadline s).target = s.target := rfl
@[simp] theorem accumulateDeadline_halfPeriod (s : State) : (accumulateDeadline s).halfPeriod = s.halfPeriod := rfl
@[simp] theorem accumulateDeadline_pulsePhase (s : State) : (accumulateDeadline s).pulsePhase = s.pulsePhase := rfl
@[simp] theorem accumulateDeadline_nextEventTime (s : State) : (accumulateDeadline s).nextEventTime = s.nextEventTime + s.halfPeriod := rfl
@[simp] theorem accumulateDeadline_active (s : State) : (accumulateDeadline s).active = s.active := rfl
@[simp] theorem accumulateDeadline_rampStartPosition (s : State) : (accumulateDeadline s).rampStartPosition = s.rampStartPosition := rfl
@[simp] theorem accumulateDeadline_rampMidpoint (s : State) : (accumulateDeadline s).rampMidpoint = s.rampMidpoint := rfl
@[simp] theorem accumulateDeadline_rampPhase (s : State) : (accumulateDeadline s).rampPhase = s.rampPhase := rfl
@[simp] theorem accumulateDeadline_rampIndex (s : State) : (accumulateDeadline s).rampIndex = s.rampIndex := rfl
@[simp] theorem accumulateDeadline_rampIterCount (s : State) : (accumulateDeadline s).rampIterCount = s.rampIterCount := rfl
@[simp] theorem accumulateDeadline_targetHalfPeriod (s : State) : (accumulateDeadline s).targetHalfPeriod = s.targetHalfPeriod := rfl
@[simp] theorem accumulateDeadline_direction (s : State) : (accumulateDeadline s).direction = s.direction := rfl
@[simp] theorem accumulateDeadline_slots (s : State) : (accumulateDeadline s).slots = s.slots := rfl
@[simp] theorem accumulateDeadline_writeIndex (s : State) : (accumulateDeadline s).writeIndex = s.writeIndex := rfl
@[simp] theorem accumulateDeadline_readIndex (s : State) : (accumulateDeadline s).readIndex = s.readIndex := rfl
@[simp] theorem accumulateDeadline_currentTarget (s : State) : (accumulateDeadline s).currentTarget = s.currentTarget := rfl
@[simp] theorem accumulateDeadline_stepOut (s : State) : (accumulateDeadline s).stepOut = s.stepOut := rfl
@[simp] theorem accumulateDeadline_dirOut (s : State) : (accumulateDeadline s).dirOut = s.dirOut := rfl
@[simp] theorem accumulateDeadline_enableOut (s : State) : (accumulateDeadline s).enableOut = s.enableOut := rfl
@[simp] theorem accumulateDeadline_servo (s : State) : (accumulateDeadline s).servo = s.servo := rfl
@[simp] theorem accumulateDeadline_now (s : State) : (accumulateDeadline s).now = s.now := rfl
@[simp] theorem accumulateDeadline_timerDeadline (s : State) : (accumulateDeadline s).timerDeadline = s.timerDeadline := rfl
@[simp] theorem accumulateDeadline_irqPending (s : State) : (accumulateDeadline s).irqPending = s.irqPending := rfl
@[simp] theorem accumulateDeadline_fgMode (s : State) : (accumulateDeadline s).fgMode = s.fgMode := rfl
@[simp] theorem accumulateDeadline_settleRemaining (s : State) : (accumulateDeadline s).settleRemaining = s.settleRemaining := rfl
@[simp] theorem accumulateDeadline_held (s : State) : (accumulateDeadline s).held = s.held := rfl
@[simp] theorem accumulateDeadline_faults (s : State) : (accumulateDeadline s).faults = s.faults := rfl
@[simp] theorem accumulateDeadline_trace (s : State) : (accumulateDeadline s).trace = s.trace := rfl
@[simp] theorem accumulateDeadline_requests (s : State) : (accumulateDeadline s).requests = s.requests := rfl
@[simp] theorem accumulateDeadline_responses (s : State) : (accumulateDeadline s).responses = s.responses := rfl
@[simp] theorem accumulateDeadline_schedule (s : State) : (accumulateDeadline s).schedule = s.schedule := rfl
@[simp] theorem accumulateDeadline_turns (s : State) : (accumulateDeadline s).turns = s.turns := rfl

/-! ## enterInterrupt -/

@[simp] theorem enterInterrupt_cfg (s : State) : (enterInterrupt s).cfg = s.cfg := rfl
@[simp] theorem enterInterrupt_position (s : State) : (enterInterrupt s).position = s.position := rfl
@[simp] theorem enterInterrupt_target (s : State) : (enterInterrupt s).target = s.target := rfl
@[simp] theorem enterInterrupt_halfPeriod (s : State) : (enterInterrupt s).halfPeriod = s.halfPeriod := rfl
@[simp] theorem enterInterrupt_pulsePhase (s : State) : (enterInterrupt s).pulsePhase = s.pulsePhase := rfl
@[simp] theorem enterInterrupt_nextEventTime (s : State) : (enterInterrupt s).nextEventTime = s.nextEventTime := rfl
@[simp] theorem enterInterrupt_active (s : State) : (enterInterrupt s).active = s.active := rfl
@[simp] theorem enterInterrupt_rampStartPosition (s : State) : (enterInterrupt s).rampStartPosition = s.rampStartPosition := rfl
@[simp] theorem enterInterrupt_rampMidpoint (s : State) : (enterInterrupt s).rampMidpoint = s.rampMidpoint := rfl
@[simp] theorem enterInterrupt_rampPhase (s : State) : (enterInterrupt s).rampPhase = s.rampPhase := rfl
@[simp] theorem enterInterrupt_rampIndex (s : State) : (enterInterrupt s).rampIndex = s.rampIndex := rfl
@[simp] theorem enterInterrupt_rampIterCount (s : State) : (enterInterrupt s).rampIterCount = s.rampIterCount := rfl
@[simp] theorem enterInterrupt_targetHalfPeriod (s : State) : (enterInterrupt s).targetHalfPeriod = s.targetHalfPeriod := rfl
@[simp] theorem enterInterrupt_direction (s : State) : (enterInterrupt s).direction = s.direction := rfl
@[simp] theorem enterInterrupt_slots (s : State) : (enterInterrupt s).slots = s.slots := rfl
@[simp] theorem enterInterrupt_writeIndex (s : State) : (enterInterrupt s).writeIndex = s.writeIndex := rfl
@[simp] theorem enterInterrupt_readIndex (s : State) : (enterInterrupt s).readIndex = s.readIndex := rfl
@[simp] theorem enterInterrupt_currentTarget (s : State) : (enterInterrupt s).currentTarget = s.currentTarget := rfl
@[simp] theorem enterInterrupt_stepOut (s : State) : (enterInterrupt s).stepOut = s.stepOut := rfl
@[simp] theorem enterInterrupt_dirOut (s : State) : (enterInterrupt s).dirOut = s.dirOut := rfl
@[simp] theorem enterInterrupt_enableOut (s : State) : (enterInterrupt s).enableOut = s.enableOut := rfl
@[simp] theorem enterInterrupt_servo (s : State) : (enterInterrupt s).servo = s.servo := rfl
@[simp] theorem enterInterrupt_now (s : State) : (enterInterrupt s).now = s.now := rfl
@[simp] theorem enterInterrupt_timerDeadline (s : State) : (enterInterrupt s).timerDeadline = s.timerDeadline := rfl
@[simp] theorem enterInterrupt_irqPending (s : State) : (enterInterrupt s).irqPending = false := rfl
@[simp] theorem enterInterrupt_fgMode (s : State) : (enterInterrupt s).fgMode = s.fgMode := rfl
@[simp] theorem enterInterrupt_settleRemaining (s : State) : (enterInterrupt s).settleRemaining = s.settleRemaining := rfl
@[simp] theorem enterInterrupt_held (s : State) : (enterInterrupt s).held = s.held := rfl
@[simp] theorem enterInterrupt_faults (s : State) : (enterInterrupt s).faults = s.faults := rfl
@[simp] theorem enterInterrupt_trace (s : State) : (enterInterrupt s).trace = s.trace := rfl
@[simp] theorem enterInterrupt_requests (s : State) : (enterInterrupt s).requests = s.requests := rfl
@[simp] theorem enterInterrupt_responses (s : State) : (enterInterrupt s).responses = s.responses := rfl
@[simp] theorem enterInterrupt_schedule (s : State) : (enterInterrupt s).schedule = s.schedule := rfl
@[simp] theorem enterInterrupt_turns (s : State) : (enterInterrupt s).turns = s.turns := rfl

/-! ## armTimer -/

@[simp] theorem armTimer_cfg (r : Int) (s : State) : (armTimer r s).cfg = s.cfg := rfl
@[simp] theorem armTimer_position (r : Int) (s : State) : (armTimer r s).position = s.position := rfl
@[simp] theorem armTimer_target (r : Int) (s : State) : (armTimer r s).target = s.target := rfl
@[simp] theorem armTimer_halfPeriod (r : Int) (s : State) : (armTimer r s).halfPeriod = s.halfPeriod := rfl
@[simp] theorem armTimer_pulsePhase (r : Int) (s : State) : (armTimer r s).pulsePhase = s.pulsePhase := rfl
@[simp] theorem armTimer_nextEventTime (r : Int) (s : State) : (armTimer r s).nextEventTime = s.nextEventTime := rfl
@[simp] theorem armTimer_active (r : Int) (s : State) : (armTimer r s).active = s.active := rfl
@[simp] theorem armTimer_rampStartPosition (r : Int) (s : State) : (armTimer r s).rampStartPosition = s.rampStartPosition := rfl
@[simp] theorem armTimer_rampMidpoint (r : Int) (s : State) : (armTimer r s).rampMidpoint = s.rampMidpoint := rfl
@[simp] theorem armTimer_rampPhase (r : Int) (s : State) : (armTimer r s).rampPhase = s.rampPhase := rfl
@[simp] theorem armTimer_rampIndex (r : Int) (s : State) : (armTimer r s).rampIndex = s.rampIndex := rfl
@[simp] theorem armTimer_rampIterCount (r : Int) (s : State) : (armTimer r s).rampIterCount = s.rampIterCount := rfl
@[simp] theorem armTimer_targetHalfPeriod (r : Int) (s : State) : (armTimer r s).targetHalfPeriod = s.targetHalfPeriod := rfl
@[simp] theorem armTimer_direction (r : Int) (s : State) : (armTimer r s).direction = s.direction := rfl
@[simp] theorem armTimer_slots (r : Int) (s : State) : (armTimer r s).slots = s.slots := rfl
@[simp] theorem armTimer_writeIndex (r : Int) (s : State) : (armTimer r s).writeIndex = s.writeIndex := rfl
@[simp] theorem armTimer_readIndex (r : Int) (s : State) : (armTimer r s).readIndex = s.readIndex := rfl
@[simp] theorem armTimer_currentTarget (r : Int) (s : State) : (armTimer r s).currentTarget = s.currentTarget := rfl
@[simp] theorem armTimer_stepOut (r : Int) (s : State) : (armTimer r s).stepOut = s.stepOut := rfl
@[simp] theorem armTimer_dirOut (r : Int) (s : State) : (armTimer r s).dirOut = s.dirOut := rfl
@[simp] theorem armTimer_enableOut (r : Int) (s : State) : (armTimer r s).enableOut = s.enableOut := rfl
@[simp] theorem armTimer_servo (r : Int) (s : State) : (armTimer r s).servo = s.servo := rfl
@[simp] theorem armTimer_now (r : Int) (s : State) : (armTimer r s).now = s.now := rfl
@[simp] theorem armTimer_timerDeadline (r : Int) (s : State) : (armTimer r s).timerDeadline = s.now + u32 r := rfl
@[simp] theorem armTimer_irqPending (r : Int) (s : State) : (armTimer r s).irqPending = s.irqPending := rfl
@[simp] theorem armTimer_fgMode (r : Int) (s : State) : (armTimer r s).fgMode = s.fgMode := rfl
@[simp] theorem armTimer_settleRemaining (r : Int) (s : State) : (armTimer r s).settleRemaining = s.settleRemaining := rfl
@[simp] theorem armTimer_held (r : Int) (s : State) : (armTimer r s).held = s.held := rfl
@[simp] theorem armTimer_faults (r : Int) (s : State) : (armTimer r s).faults = s.faults := rfl
@[simp] theorem armTimer_trace (r : Int) (s : State) : (armTimer r s).trace = s.trace := rfl
@[simp] theorem armTimer_requests (r : Int) (s : State) : (armTimer r s).requests = s.requests := rfl
@[simp] theorem armTimer_responses (r : Int) (s : State) : (armTimer r s).responses = s.responses := rfl
@[simp] theorem armTimer_schedule (r : Int) (s : State) : (armTimer r s).schedule = s.schedule := rfl
@[simp] theorem armTimer_turns (r : Int) (s : State) : (armTimer r s).turns = s.turns := rfl

/-! ## dropRequest -/

@[simp] theorem dropRequest_cfg (s : State) : (dropRequest s).cfg = s.cfg := rfl
@[simp] theorem dropRequest_position (s : State) : (dropRequest s).position = s.position := rfl
@[simp] theorem dropRequest_target (s : State) : (dropRequest s).target = s.target := rfl
@[simp] theorem dropRequest_halfPeriod (s : State) : (dropRequest s).halfPeriod = s.halfPeriod := rfl
@[simp] theorem dropRequest_pulsePhase (s : State) : (dropRequest s).pulsePhase = s.pulsePhase := rfl
@[simp] theorem dropRequest_nextEventTime (s : State) : (dropRequest s).nextEventTime = s.nextEventTime := rfl
@[simp] theorem dropRequest_active (s : State) : (dropRequest s).active = s.active := rfl
@[simp] theorem dropRequest_rampStartPosition (s : State) : (dropRequest s).rampStartPosition = s.rampStartPosition := rfl
@[simp] theorem dropRequest_rampMidpoint (s : State) : (dropRequest s).rampMidpoint = s.rampMidpoint := rfl
@[simp] theorem dropRequest_rampPhase (s : State) : (dropRequest s).rampPhase = s.rampPhase := rfl
@[simp] theorem dropRequest_rampIndex (s : State) : (dropRequest s).rampIndex = s.rampIndex := rfl
@[simp] theorem dropRequest_rampIterCount (s : State) : (dropRequest s).rampIterCount = s.rampIterCount := rfl
@[simp] theorem dropRequest_targetHalfPeriod (s : State) : (dropRequest s).targetHalfPeriod = s.targetHalfPeriod := rfl
@[simp] theorem dropRequest_direction (s : State) : (dropRequest s).direction = s.direction := rfl
@[simp] theorem dropRequest_slots (s : State) : (dropRequest s).slots = s.slots := rfl
@[simp] theorem dropRequest_writeIndex (s : State) : (dropRequest s).writeIndex = s.writeIndex := rfl
@[simp] theorem dropRequest_readIndex (s : State) : (dropRequest s).readIndex = s.readIndex := rfl
@[simp] theorem dropRequest_currentTarget (s : State) : (dropRequest s).currentTarget = s.currentTarget := rfl
@[simp] theorem dropRequest_stepOut (s : State) : (dropRequest s).stepOut = s.stepOut := rfl
@[simp] theorem dropRequest_dirOut (s : State) : (dropRequest s).dirOut = s.dirOut := rfl
@[simp] theorem dropRequest_enableOut (s : State) : (dropRequest s).enableOut = s.enableOut := rfl
@[simp] theorem dropRequest_servo (s : State) : (dropRequest s).servo = s.servo := rfl
@[simp] theorem dropRequest_now (s : State) : (dropRequest s).now = s.now := rfl
@[simp] theorem dropRequest_timerDeadline (s : State) : (dropRequest s).timerDeadline = s.timerDeadline := rfl
@[simp] theorem dropRequest_irqPending (s : State) : (dropRequest s).irqPending = s.irqPending := rfl
@[simp] theorem dropRequest_fgMode (s : State) : (dropRequest s).fgMode = s.fgMode := rfl
@[simp] theorem dropRequest_settleRemaining (s : State) : (dropRequest s).settleRemaining = s.settleRemaining := rfl
@[simp] theorem dropRequest_held (s : State) : (dropRequest s).held = s.held := rfl
@[simp] theorem dropRequest_faults (s : State) : (dropRequest s).faults = s.faults := rfl
@[simp] theorem dropRequest_trace (s : State) : (dropRequest s).trace = s.trace := rfl
@[simp] theorem dropRequest_requests (s : State) : (dropRequest s).requests = s.requests.tail := rfl
@[simp] theorem dropRequest_responses (s : State) : (dropRequest s).responses = s.responses := rfl
@[simp] theorem dropRequest_schedule (s : State) : (dropRequest s).schedule = s.schedule := rfl
@[simp] theorem dropRequest_turns (s : State) : (dropRequest s).turns = s.turns := rfl

/-! ## settleEnd -/

@[simp] theorem settleEnd_cfg (s : State) : (settleEnd s).cfg = s.cfg := rfl
@[simp] theorem settleEnd_position (s : State) : (settleEnd s).position = s.position := rfl
@[simp] theorem settleEnd_target (s : State) : (settleEnd s).target = s.target := rfl
@[simp] theorem settleEnd_halfPeriod (s : State) : (settleEnd s).halfPeriod = s.halfPeriod := rfl
@[simp] theorem settleEnd_pulsePhase (s : State) : (settleEnd s).pulsePhase = s.pulsePhase := rfl
@[simp] theorem settleEnd_nextEventTime (s : State) : (settleEnd s).nextEventTime = s.nextEventTime := rfl
@[simp] theorem settleEnd_active (s : State) : (settleEnd s).active = s.active := rfl
@[simp] theorem settleEnd_rampStartPosition (s : State) : (settleEnd s).rampStartPosition = s.rampStartPosition := rfl
@[simp] theorem settleEnd_rampMidpoint (s : State) : (settleEnd s).rampMidpoint = s.rampMidpoint := rfl
@[simp] theorem settleEnd_rampPhase (s : State) : (settleEnd s).rampPhase = s.rampPhase := rfl
@[simp] theorem settleEnd_rampIndex (s : State) : (settleEnd s).rampIndex = s.rampIndex := rfl
@[simp] theorem settleEnd_rampIterCount (s : State) : (settleEnd s).rampIterCount = s.rampIterCount := rfl
@[simp] theorem settleEnd_targetHalfPeriod (s : State) : (settleEnd s).targetHalfPeriod = s.targetHalfPeriod := rfl
@[simp] theorem settleEnd_direction (s : State) : (settleEnd s).direction = s.direction := rfl
@[simp] theorem settleEnd_slots (s : State) : (settleEnd s).slots = s.slots := rfl
@[simp] theorem settleEnd_writeIndex (s : State) : (settleEnd s).writeIndex = s.writeIndex := rfl
@[simp] theorem settleEnd_readIndex (s : State) : (settleEnd s).readIndex = s.readIndex := rfl
@[simp] theorem settleEnd_currentTarget (s : State) : (settleEnd s).currentTarget = s.currentTarget := rfl
@[simp] theorem settleEnd_stepOut (s : State) : (settleEnd s).stepOut = s.stepOut := rfl
@[simp] theorem settleEnd_dirOut (s : State) : (settleEnd s).dirOut = s.dirOut := rfl
@[simp] theorem settleEnd_enableOut (s : State) : (settleEnd s).enableOut = s.enableOut := rfl
@[simp] theorem settleEnd_servo (s : State) : (settleEnd s).servo = s.servo := rfl
@[simp] theorem settleEnd_now (s : State) : (settleEnd s).now = s.now := rfl
@[simp] theorem settleEnd_timerDeadline (s : State) : (settleEnd s).timerDeadline = s.timerDeadline := rfl
@[simp] theorem settleEnd_irqPending (s : State) : (settleEnd s).irqPending = s.irqPending := rfl
@[simp] theorem settleEnd_fgMode (s : State) : (settleEnd s).fgMode = .ready := rfl
@[simp] theorem settleEnd_settleRemaining (s : State) : (settleEnd s).settleRemaining = s.settleRemaining := rfl
@[simp] theorem settleEnd_held (s : State) : (settleEnd s).held = s.held := rfl
@[simp] theorem settleEnd_faults (s : State) : (settleEnd s).faults = s.faults := rfl
@[simp] theorem settleEnd_trace (s : State) : (settleEnd s).trace = s.trace := rfl
@[simp] theorem settleEnd_requests (s : State) : (settleEnd s).requests = s.requests := rfl
@[simp] theorem settleEnd_responses (s : State) : (settleEnd s).responses = s.responses ++ [s.held] := rfl
@[simp] theorem settleEnd_schedule (s : State) : (settleEnd s).schedule = s.schedule := rfl
@[simp] theorem settleEnd_turns (s : State) : (settleEnd s).turns = s.turns := rfl

/-! ## softStop -/

@[simp] theorem softStop_cfg (s : State) : (softStop s).cfg = s.cfg := by unfold softStop; split <;> rfl
@[simp] theorem softStop_position (s : State) : (softStop s).position = s.position := by unfold softStop; split <;> rfl
@[simp] theorem softStop_target (s : State) : (softStop s).target = if s.active then s.position else s.target := by unfold softStop; split <;> rfl
@[simp] theorem softStop_halfPeriod (s : State) : (softStop s).halfPeriod = s.halfPeriod := by unfold softStop; split <;> rfl
@[simp] theorem softStop_pulsePhase (s : State) : (softStop s).pulsePhase = s.pulsePhase := by unfold softStop; split <;> rfl
@[simp] theorem softStop_nextEventTime (s : State) : (softStop s).nextEventTime = s.nextEventTime := by unfold softStop; split <;> rfl
@[simp] theorem softStop_active (s : State) : (softStop s).active = s.active := by unfold softStop; split <;> rfl
@[simp] theorem softStop_rampStartPosition (s : State) : (softStop s).rampStartPosition = s.rampStartPosition := by unfold softStop; split <;> rfl
@[simp] theorem softStop_rampMidpoint (s : State) : (softStop s).rampMidpoint = s.rampMidpoint := by unfold softStop; split <;> rfl
@[simp] theorem softStop_rampPhase (s : State) : (softStop s).rampPhase = s.rampPhase := by unfold softStop; split <;> rfl
@[simp] theorem softStop_rampIndex (s : State) : (softStop s).rampIndex = s.rampIndex := by unfold softStop; split <;> rfl
@[simp] theorem softStop_rampIterCount (s : State) : (softStop s).rampIterCount = s.rampIterCount := by unfold softStop; split <;> rfl
@[simp] theorem softStop_targetHalfPeriod (s : State) : (softStop s).targetHalfPeriod = s.targetHalfPeriod := by unfold softStop; split <;> rfl
@[simp] theorem softStop_direction (s : State) : (softStop s).direction = s.direction := by unfold softStop; split <;> rfl
@[simp] theorem softStop_slots (s : State) : (softStop s).slots = s.slots := by unfold softStop; split <;> rfl
@[simp] theorem softStop_writeIndex (s : State) : (softStop s).writeIndex = s.writeIndex := by unfold softStop; split <;> rfl
@[simp] theorem softStop_readIndex (s : State) : (softStop s).readIndex = s.readIndex := by unfold softStop; split <;> rfl
@[simp] theorem softStop_currentTarget (s : State) : (softStop s).currentTarget = s.currentTarget := by unfold softStop; split <;> rfl
@[simp] theorem softStop_stepOut (s : State) : (softStop s).stepOut = s.stepOut := by unfold softStop; split <;> rfl
@[simp] theorem softStop_dirOut (s : State) : (softStop s).dirOut = s.dirOut := by unfold softStop; split <;> rfl
@[simp] theorem softStop_enableOut (s : State) : (softStop s).enableOut = s.enableOut := by unfold softStop; split <;> rfl
@[simp] theorem softStop_servo (s : State) : (softStop s).servo = s.servo := by unfold softStop; split <;> rfl
@[simp] theorem softStop_now (s : State) : (softStop s).now = s.now := by unfold softStop; split <;> rfl
@[simp] theorem softStop_timerDeadline (s : State) : (softStop s).timerDeadline = s.timerDeadline := by unfold softStop; split <;> rfl
@[simp] theorem softStop_irqPending (s : State) : (softStop s).irqPending = s.irqPending := by unfold softStop; split <;> rfl
@[simp] theorem softStop_fgMode (s : State) : (softStop s).fgMode = s.fgMode := by unfold softStop; split <;> rfl
@[simp] theorem softStop_settleRemaining (s : State) : (softStop s).settleRemaining = s.settleRemaining := by unfold softStop; split <;> rfl
@[simp] theorem softStop_held (s : State) : (softStop s).held = s.held := by unfold softStop; split <;> rfl
@[simp] theorem softStop_faults (s : State) : (softStop s).faults = s.faults := by unfold softStop; split <;> rfl
@[simp] theorem softStop_trace (s : State) : (softStop s).trace = s.trace := by unfold softStop; split <;> rfl
@[simp] theorem softStop_requests (s : State) : (softStop s).requests = s.requests := by unfold softStop; split <;> rfl
@[simp] theorem softStop_responses (s : State) : (softStop s).responses = s.responses := by unfold softStop; split <;> rfl
@[simp] theorem softStop_schedule (s : State) : (softStop s).schedule = s.schedule := by unfold softStop; split <;> rfl
@[simp] theorem softStop_turns (s : State) : (softStop s).turns = s.turns := by unfold softStop; split <;> rfl

/-! ## raiseFault -/

@[simp] theorem raiseFault_cfg (f : Fault) (s : State) : (raiseFault f s).cfg = s.cfg := by unfold raiseFault; split <;> rfl
@[simp] theorem raiseFault_position (f : Fault) (s : State) : (raiseFault f s).position = s.position := by unfold raiseFault; split <;> rfl
@[simp] theorem raiseFault_target (f : Fault) (s : State) : (raiseFault f s).target = s.target := by unfold raiseFault; split <;> rfl
@[simp] theorem raiseFault_halfPeriod (f : Fault) (s : State) : (raiseFault f s).halfPeriod = s.halfPeriod := by unfold raiseFault; split <;> rfl
@[simp] theorem raiseFault_pulsePhase (f : Fault) (s : State) : (raiseFault f s).pulsePhase = s.pulsePhase := by unfold raiseFault; split <;> rfl
@[simp] theorem raiseFault_nextEventTime (f : Fault) (s : State) : (raiseFault f s).nextEventTime = s.nextEventTime := by unfold raiseFault; split <;> rfl
@[simp] theorem raiseFault_active (f : Fault) (s : State) : (raiseFault f s).active = s.active := by unfold raiseFault; split <;> rfl
@[simp] theorem raiseFault_rampStartPosition (f : Fault) (s : State) : (raiseFault f s).rampStartPosition = s.rampStartPosition := by unfold raiseFault; split <;> rfl
@[simp] theorem raiseFault_rampMidpoint (f : Fault) (s : State) : (raiseFault f s).rampMidpoint = s.rampMidpoint := by unfold raiseFault; split <;> rfl
@[simp] theorem raiseFault_rampPhase (f : Fault) (s : State) : (raiseFault f s).rampPhase = s.rampPhase := by unfold raiseFault; split <;> rfl
@[simp] theorem raiseFault_rampIndex (f : Fault) (s : State) : (raiseFault f s).rampIndex = s.rampIndex := by unfold raiseFault; split <;> rfl
@[simp] theorem raiseFault_rampIterCount (f : Fault) (s : State) : (raiseFault f s).rampIterCount = s.rampIterCount := by unfold raiseFault; split <;> rfl
@[simp] theorem raiseFault_targetHalfPeriod (f : Fault) (s : State) : (raiseFault f s).targetHalfPeriod = s.targetHalfPeriod := by unfold raiseFault; split <;> rfl
@[simp] theorem raiseFault_direction (f : Fault) (s : State) : (raiseFault f s).direction = s.direction := by unfold raiseFault; split <;> rfl
@[simp] theorem raiseFault_slots (f : Fault) (s : State) : (raiseFault f s).slots = s.slots := by unfold raiseFault; split <;> rfl
@[simp] theorem raiseFault_writeIndex (f : Fault) (s : State) : (raiseFault f s).writeIndex = s.writeIndex := by unfold raiseFault; split <;> rfl
@[simp] theorem raiseFault_readIndex (f : Fault) (s : State) : (raiseFault f s).readIndex = s.readIndex := by unfold raiseFault; split <;> rfl
@[simp] theorem raiseFault_currentTarget (f : Fault) (s : State) : (raiseFault f s).currentTarget = s.currentTarget := by unfold raiseFault; split <;> rfl
@[simp] theorem raiseFault_stepOut (f : Fault) (s : State) : (raiseFault f s).stepOut = s.stepOut := by unfold raiseFault; split <;> rfl
@[simp] theorem raiseFault_dirOut (f : Fault) (s : State) : (raiseFault f s).dirOut = s.dirOut := by unfold raiseFault; split <;> rfl
@[simp] theorem raiseFault_enableOut (f : Fault) (s : State) : (raiseFault f s).enableOut = s.enableOut := by unfold raiseFault; split <;> rfl
@[simp] theorem raiseFault_servo (f : Fault) (s : State) : (raiseFault f s).servo = s.servo := by unfold raiseFault; split <;> rfl
@[simp] theorem raiseFault_now (f : Fault) (s : State) : (raiseFault f s).now = s.now := by unfold raiseFault; split <;> rfl
@[simp] theorem raiseFault_timerDeadline (f : Fault) (s : State) : (raiseFault f s).timerDeadline = s.timerDeadline := by unfold raiseFault; split <;> rfl
@[simp] theorem raiseFault_irqPending (f : Fault) (s : State) : (raiseFault f s).irqPending = s.irqPending := by unfold raiseFault; split <;> rfl
@[simp] theorem raiseFault_fgMode (f : Fault) (s : State) : (raiseFault f s).fgMode = s.fgMode := by unfold raiseFault; split <;> rfl
@[simp] theorem raiseFault_settleRemaining (f : Fault) (s : State) : (raiseFault f s).settleRemaining = s.settleRemaining := by unfold raiseFault; split <;> rfl
@[simp] theorem raiseFault_held (f : Fault) (s : State) : (raiseFault f s).held = s.held := by unfold raiseFault; split <;> rfl
@[simp] theorem raiseFault_faults (f : Fault) (s : State) : (raiseFault f s).faults = if f ∈ s.faults then s.faults else s.faults ++ [f] := by unfold raiseFault; split <;> rfl
@[simp] theorem raiseFault_trace (f : Fault) (s : State) : (raiseFault f s).trace = s.trace := by unfold raiseFault; split <;> rfl
@[simp] theorem raiseFault_requests (f : Fault) (s : State) : (raiseFault f s).requests = s.requests := by unfold raiseFault; split <;> rfl
@[simp] theorem raiseFault_responses (f : Fault) (s : State) : (raiseFault f s).responses = s.responses := by unfold raiseFault; split <;> rfl
@[simp] theorem raiseFault_schedule (f : Fault) (s : State) : (raiseFault f s).schedule = s.schedule := by unfold raiseFault; split <;> rfl
@[simp] theorem raiseFault_turns (f : Fault) (s : State) : (raiseFault f s).turns = s.turns := by unfold raiseFault; split <;> rfl

/-! ## advanceSchedule -/

@[simp] theorem advanceSchedule_cfg (s : State) : (advanceSchedule s).cfg = s.cfg := rfl
@[simp] theorem advanceSchedule_position (s : State) : (advanceSchedule s).position = s.position := rfl
@[simp] theorem advanceSchedule_target (s : State) : (advanceSchedule s).target = s.target := rfl
@[simp] theorem advanceSchedule_halfPeriod (s : State) : (advanceSchedule s).halfPeriod = s.halfPeriod := rfl
@[simp] theorem advanceSchedule_pulsePhase (s : State) : (advanceSchedule s).pulsePhase = s.pulsePhase := rfl
@[simp] theorem advanceSchedule_nextEventTime (s : State) : (advanceSchedule s).nextEventTime = s.nextEventTime := rfl
@[simp] theorem advanceSchedule_active (s : State) : (advanceSchedule s).active = s.active := rfl
@[simp] theorem advanceSchedule_rampStartPosition (s : State) : (advanceSchedule s).rampStartPosition = s.rampStartPosition := rfl
@[simp] theorem advanceSchedule_rampMidpoint (s : State) : (advanceSchedule s).rampMidpoint = s.rampMidpoint := rfl
@[simp] theorem advanceSchedule_rampPhase (s : State) : (advanceSchedule s).rampPhase = s.rampPhase := rfl
@[simp] theorem advanceSchedule_rampIndex (s : State) : (advanceSchedule s).rampIndex = s.rampIndex := rfl
@[simp] theorem advanceSchedule_rampIterCount (s : State) : (advanceSchedule s).rampIterCount = s.rampIterCount := rfl
@[simp] theorem advanceSchedule_targetHalfPeriod (s : State) : (advanceSchedule s).targetHalfPeriod = s.targetHalfPeriod := rfl
@[simp] theorem advanceSchedule_direction (s : State) : (advanceSchedule s).direction = s.direction := rfl
@[simp] theorem advanceSchedule_slots (s : State) : (advanceSchedule s).slots = s.slots := rfl
@[simp] theorem advanceSchedule_writeIndex (s : State) : (advanceSchedule s).writeIndex = s.writeIndex := rfl
@[simp] theorem advanceSchedule_readIndex (s : State) : (advanceSchedule s).readIndex = s.readIndex := rfl
@[simp] theorem advanceSchedule_currentTarget (s : State) : (advanceSchedule s).currentTarget = s.currentTarget := rfl
@[simp] theorem advanceSchedule_stepOut (s : State) : (advanceSchedule s).stepOut = s.stepOut := rfl
@[simp] theorem advanceSchedule_dirOut (s : State) : (advanceSchedule s).dirOut = s.dirOut := rfl
@[simp] theorem advanceSchedule_enableOut (s : State) : (advanceSchedule s).enableOut = s.enableOut := rfl
@[simp] theorem advanceSchedule_servo (s : State) : (advanceSchedule s).servo = s.servo := rfl
@[simp] theorem advanceSchedule_now (s : State) : (advanceSchedule s).now = s.now := rfl
@[simp] theorem advanceSchedule_timerDeadline (s : State) : (advanceSchedule s).timerDeadline = s.timerDeadline := rfl
@[simp] theorem advanceSchedule_irqPending (s : State) : (advanceSchedule s).irqPending = s.irqPending := rfl
@[simp] theorem advanceSchedule_fgMode (s : State) : (advanceSchedule s).fgMode = s.fgMode := rfl
@[simp] theorem advanceSchedule_settleRemaining (s : State) : (advanceSchedule s).settleRemaining = s.settleRemaining := rfl
@[simp] theorem advanceSchedule_held (s : State) : (advanceSchedule s).held = s.held := rfl
@[simp] theorem advanceSchedule_faults (s : State) : (advanceSchedule s).faults = s.faults := rfl
@[simp] theorem advanceSchedule_trace (s : State) : (advanceSchedule s).trace = s.trace := rfl
@[simp] theorem advanceSchedule_requests (s : State) : (advanceSchedule s).requests = s.requests := rfl
@[simp] theorem advanceSchedule_responses (s : State) : (advanceSchedule s).responses = s.responses := rfl
@[simp] theorem advanceSchedule_schedule (s : State) : (advanceSchedule s).schedule = (upcoming s).tail := rfl
@[simp] theorem advanceSchedule_turns (s : State) :
    (advanceSchedule s).turns = if s.schedule.isEmpty then s.turns + 1 else s.turns := rfl

/-! ## upcoming and nextAgent -/

@[simp] theorem upcoming_cons (s : State) (a : Agent) (rest : List Agent) (h : s.schedule = a :: rest) :
    upcoming s = a :: rest := by unfold upcoming; rw [h]

@[simp] theorem upcoming_nil (s : State) (h : s.schedule = []) :
    upcoming s = Config.freeBlock s.turns ++ [turnAgent s.turns] := by unfold upcoming; rw [h]

theorem upcoming_ne_nil (s : State) : upcoming s ≠ [] := by
  unfold upcoming; split <;> simp

/-- The agents to be named are the next agent and then what the schedule holds after it. -/
theorem upcoming_eq (s : State) : upcoming s = nextAgent s :: (advanceSchedule s).schedule := by
  unfold nextAgent
  rw [advanceSchedule_schedule]
  cases h : upcoming s with
  | nil => exact absurd h (upcoming_ne_nil s)
  | cons a l => rfl

/-! ## tick -/

@[simp] theorem tick_cfg (s : State) : (tick s).cfg = s.cfg := rfl
@[simp] theorem tick_position (s : State) : (tick s).position = s.position := rfl
@[simp] theorem tick_target (s : State) : (tick s).target = s.target := rfl
@[simp] theorem tick_halfPeriod (s : State) : (tick s).halfPeriod = s.halfPeriod := rfl
@[simp] theorem tick_pulsePhase (s : State) : (tick s).pulsePhase = s.pulsePhase := rfl
@[simp] theorem tick_nextEventTime (s : State) : (tick s).nextEventTime = s.nextEventTime := rfl
@[simp] theorem tick_active (s : State) : (tick s).active = s.active := rfl
@[simp] theorem tick_rampStartPosition (s : State) : (tick s).rampStartPosition = s.rampStartPosition := rfl
@[simp] theorem tick_rampMidpoint (s : State) : (tick s).rampMidpoint = s.rampMidpoint := rfl
@[simp] theorem tick_rampPhase (s : State) : (tick s).rampPhase = s.rampPhase := rfl
@[simp] theorem tick_rampIndex (s : State) : (tick s).rampIndex = s.rampIndex := rfl
@[simp] theorem tick_rampIterCount (s : State) : (tick s).rampIterCount = s.rampIterCount := rfl
@[simp] theorem tick_targetHalfPeriod (s : State) : (tick s).targetHalfPeriod = s.targetHalfPeriod := rfl
@[simp] theorem tick_direction (s : State) : (tick s).direction = s.direction := rfl
@[simp] theorem tick_slots (s : State) : (tick s).slots = s.slots := rfl
@[simp] theorem tick_writeIndex (s : State) : (tick s).writeIndex = s.writeIndex := rfl
@[simp] theorem tick_readIndex (s : State) : (tick s).readIndex = s.readIndex := rfl
@[simp] theorem tick_currentTarget (s : State) : (tick s).currentTarget = s.currentTarget := rfl
@[simp] theorem tick_stepOut (s : State) : (tick s).stepOut = s.stepOut := rfl
@[simp] theorem tick_dirOut (s : State) : (tick s).dirOut = s.dirOut := rfl
@[simp] theorem tick_enableOut (s : State) : (tick s).enableOut = s.enableOut := rfl
@[simp] theorem tick_servo (s : State) : (tick s).servo = s.servo := rfl
@[simp] theorem tick_now (s : State) : (tick s).now = s.now + 1#32 := rfl
@[simp] theorem tick_timerDeadline (s : State) : (tick s).timerDeadline = s.timerDeadline := rfl
@[simp] theorem tick_fgMode (s : State) : (tick s).fgMode = s.fgMode := rfl
@[simp] theorem tick_held (s : State) : (tick s).held = s.held := rfl
@[simp] theorem tick_faults (s : State) : (tick s).faults = s.faults := rfl
@[simp] theorem tick_trace (s : State) : (tick s).trace = s.trace := rfl
@[simp] theorem tick_requests (s : State) : (tick s).requests = s.requests := rfl
@[simp] theorem tick_responses (s : State) : (tick s).responses = s.responses := rfl
@[simp] theorem tick_schedule (s : State) : (tick s).schedule = s.schedule := rfl
@[simp] theorem tick_turns (s : State) : (tick s).turns = s.turns := rfl

end Sys2Proof.Machine
end

