-- ==== Sys2Proof/Laws/Frames.lean ====
section
/-!
SUPPORT. What each compound operation of the generator, the ramp and the cutter does to the fields it sets to a fixed value or leaves alone.
-/

namespace Sys2Proof.Machine

/-! ## returnIdle -/

@[simp] theorem returnIdle_cfg (s : State) : ((returnIdle s).1).cfg = s.cfg := rfl
@[simp] theorem returnIdle_position (s : State) : ((returnIdle s).1).position = s.position := rfl
@[simp] theorem returnIdle_target (s : State) : ((returnIdle s).1).target = s.target := rfl
@[simp] theorem returnIdle_halfPeriod (s : State) : ((returnIdle s).1).halfPeriod = s.halfPeriod := rfl
@[simp] theorem returnIdle_pulsePhase (s : State) : ((returnIdle s).1).pulsePhase = s.pulsePhase := rfl
@[simp] theorem returnIdle_nextEventTime (s : State) : ((returnIdle s).1).nextEventTime = s.now + u32 s.cfg.idleInterval := rfl
@[simp] theorem returnIdle_active (s : State) : ((returnIdle s).1).active = s.active := rfl
@[simp] theorem returnIdle_rampStartPosition (s : State) : ((returnIdle s).1).rampStartPosition = s.rampStartPosition := rfl
@[simp] theorem returnIdle_rampMidpoint (s : State) : ((returnIdle s).1).rampMidpoint = s.rampMidpoint := rfl
@[simp] theorem returnIdle_rampPhase (s : State) : ((returnIdle s).1).rampPhase = s.rampPhase := rfl
@[simp] theorem returnIdle_rampIndex (s : State) : ((returnIdle s).1).rampIndex = s.rampIndex := rfl
@[simp] theorem returnIdle_rampIterCount (s : State) : ((returnIdle s).1).rampIterCount = s.rampIterCount := rfl
@[simp] theorem returnIdle_targetHalfPeriod (s : State) : ((returnIdle s).1).targetHalfPeriod = s.targetHalfPeriod := rfl
@[simp] theorem returnIdle_direction (s : State) : ((returnIdle s).1).direction = s.direction := rfl
@[simp] theorem returnIdle_slots (s : State) : ((returnIdle s).1).slots = s.slots := rfl
@[simp] theorem returnIdle_writeIndex (s : State) : ((returnIdle s).1).writeIndex = s.writeIndex := rfl
@[simp] theorem returnIdle_readIndex (s : State) : ((returnIdle s).1).readIndex = s.readIndex := rfl
@[simp] theorem returnIdle_currentTarget (s : State) : ((returnIdle s).1).currentTarget = s.currentTarget := rfl
@[simp] theorem returnIdle_stepOut (s : State) : ((returnIdle s).1).stepOut = s.stepOut := rfl
@[simp] theorem returnIdle_dirOut (s : State) : ((returnIdle s).1).dirOut = s.dirOut := rfl
@[simp] theorem returnIdle_enableOut (s : State) : ((returnIdle s).1).enableOut = s.enableOut := rfl
@[simp] theorem returnIdle_servo (s : State) : ((returnIdle s).1).servo = s.servo := rfl
@[simp] theorem returnIdle_now (s : State) : ((returnIdle s).1).now = s.now := rfl
@[simp] theorem returnIdle_timerDeadline (s : State) : ((returnIdle s).1).timerDeadline = s.timerDeadline := rfl
@[simp] theorem returnIdle_irqPending (s : State) : ((returnIdle s).1).irqPending = s.irqPending := rfl
@[simp] theorem returnIdle_fgMode (s : State) : ((returnIdle s).1).fgMode = s.fgMode := rfl
@[simp] theorem returnIdle_settleRemaining (s : State) : ((returnIdle s).1).settleRemaining = s.settleRemaining := rfl
@[simp] theorem returnIdle_held (s : State) : ((returnIdle s).1).held = s.held := rfl
@[simp] theorem returnIdle_faults (s : State) : ((returnIdle s).1).faults = s.faults := rfl
@[simp] theorem returnIdle_trace (s : State) : ((returnIdle s).1).trace = s.trace := rfl
@[simp] theorem returnIdle_requests (s : State) : ((returnIdle s).1).requests = s.requests := rfl
@[simp] theorem returnIdle_responses (s : State) : ((returnIdle s).1).responses = s.responses := rfl
@[simp] theorem returnIdle_schedule (s : State) : ((returnIdle s).1).schedule = s.schedule := rfl
@[simp] theorem returnIdle_turns (s : State) : ((returnIdle s).1).turns = s.turns := rfl

/-! ## completeMove -/

@[simp] theorem completeMove_cfg (s : State) : ((completeMove s).1).cfg = s.cfg := rfl
@[simp] theorem completeMove_position (s : State) : ((completeMove s).1).position = s.position := rfl
@[simp] theorem completeMove_target (s : State) : ((completeMove s).1).target = s.target := rfl
@[simp] theorem completeMove_halfPeriod (s : State) : ((completeMove s).1).halfPeriod = s.halfPeriod := rfl
@[simp] theorem completeMove_pulsePhase (s : State) : ((completeMove s).1).pulsePhase = false := rfl
@[simp] theorem completeMove_nextEventTime (s : State) : ((completeMove s).1).nextEventTime = s.now + u32 s.cfg.idleInterval := rfl
@[simp] theorem completeMove_active (s : State) : ((completeMove s).1).active = false := rfl
@[simp] theorem completeMove_rampStartPosition (s : State) : ((completeMove s).1).rampStartPosition = s.rampStartPosition := rfl
@[simp] theorem completeMove_rampMidpoint (s : State) : ((completeMove s).1).rampMidpoint = s.rampMidpoint := rfl
@[simp] theorem completeMove_rampPhase (s : State) : ((completeMove s).1).rampPhase = .none := rfl
@[simp] theorem completeMove_rampIndex (s : State) : ((completeMove s).1).rampIndex = 0 := rfl
@[simp] theorem completeMove_rampIterCount (s : State) : ((completeMove s).1).rampIterCount = 0#16 := rfl
@[simp] theorem completeMove_targetHalfPeriod (s : State) : ((completeMove s).1).targetHalfPeriod = s.targetHalfPeriod := rfl
@[simp] theorem completeMove_direction (s : State) : ((completeMove s).1).direction = s.direction := rfl
@[simp] theorem completeMove_slots (s : State) : ((completeMove s).1).slots = s.slots := rfl
@[simp] theorem completeMove_writeIndex (s : State) : ((completeMove s).1).writeIndex = s.writeIndex := rfl
@[simp] theorem completeMove_readIndex (s : State) : ((completeMove s).1).readIndex = s.readIndex := rfl
@[simp] theorem completeMove_currentTarget (s : State) : ((completeMove s).1).currentTarget = s.currentTarget := rfl
@[simp] theorem completeMove_stepOut (s : State) : ((completeMove s).1).stepOut = s.stepOut := rfl
@[simp] theorem completeMove_dirOut (s : State) : ((completeMove s).1).dirOut = s.dirOut := rfl
@[simp] theorem completeMove_enableOut (s : State) : ((completeMove s).1).enableOut = s.enableOut := rfl
@[simp] theorem completeMove_servo (s : State) : ((completeMove s).1).servo = s.servo := rfl
@[simp] theorem completeMove_now (s : State) : ((completeMove s).1).now = s.now := rfl
@[simp] theorem completeMove_timerDeadline (s : State) : ((completeMove s).1).timerDeadline = s.timerDeadline := rfl
@[simp] theorem completeMove_irqPending (s : State) : ((completeMove s).1).irqPending = s.irqPending := rfl
@[simp] theorem completeMove_fgMode (s : State) : ((completeMove s).1).fgMode = s.fgMode := rfl
@[simp] theorem completeMove_settleRemaining (s : State) : ((completeMove s).1).settleRemaining = s.settleRemaining := rfl
@[simp] theorem completeMove_held (s : State) : ((completeMove s).1).held = s.held := rfl
@[simp] theorem completeMove_faults (s : State) : ((completeMove s).1).faults = s.faults := rfl
@[simp] theorem completeMove_trace (s : State) : ((completeMove s).1).trace = s.trace ++ [{ event := .complete, time := s.now }] := rfl
@[simp] theorem completeMove_requests (s : State) : ((completeMove s).1).requests = s.requests := rfl
@[simp] theorem completeMove_responses (s : State) : ((completeMove s).1).responses = s.responses := rfl
@[simp] theorem completeMove_schedule (s : State) : ((completeMove s).1).schedule = s.schedule := rfl
@[simp] theorem completeMove_turns (s : State) : ((completeMove s).1).turns = s.turns := rfl

/-! ## returnRemaining -/

@[simp] theorem returnRemaining_cfg (s : State) : ((returnRemaining s).1).cfg = s.cfg := by unfold returnRemaining; dsimp only; split <;> rfl
@[simp] theorem returnRemaining_position (s : State) : ((returnRemaining s).1).position = s.position := by unfold returnRemaining; dsimp only; split <;> rfl
@[simp] theorem returnRemaining_target (s : State) : ((returnRemaining s).1).target = s.target := by unfold returnRemaining; dsimp only; split <;> rfl
@[simp] theorem returnRemaining_halfPeriod (s : State) : ((returnRemaining s).1).halfPeriod = s.halfPeriod := by unfold returnRemaining; dsimp only; split <;> rfl
@[simp] theorem returnRemaining_pulsePhase (s : State) : ((returnRemaining s).1).pulsePhase = s.pulsePhase := by unfold returnRemaining; dsimp only; split <;> rfl
@[simp] theorem returnRemaining_active (s : State) : ((returnRemaining s).1).active = s.active := by unfold returnRemaining; dsimp only; split <;> rfl
@[simp] theorem returnRemaining_rampStartPosition (s : State) : ((returnRemaining s).1).rampStartPosition = s.rampStartPosition := by unfold returnRemaining; dsimp only; split <;> rfl
@[simp] theorem returnRemaining_rampMidpoint (s : State) : ((returnRemaining s).1).rampMidpoint = s.rampMidpoint := by unfold returnRemaining; dsimp only; split <;> rfl
@[simp] theorem returnRemaining_rampPhase (s : State) : ((returnRemaining s).1).rampPhase = s.rampPhase := by unfold returnRemaining; dsimp only; split <;> rfl
@[simp] theorem returnRemaining_rampIndex (s : State) : ((returnRemaining s).1).rampIndex = s.rampIndex := by unfold returnRemaining; dsimp only; split <;> rfl
@[simp] theorem returnRemaining_rampIterCount (s : State) : ((returnRemaining s).1).rampIterCount = s.rampIterCount := by unfold returnRemaining; dsimp only; split <;> rfl
@[simp] theorem returnRemaining_targetHalfPeriod (s : State) : ((returnRemaining s).1).targetHalfPeriod = s.targetHalfPeriod := by unfold returnRemaining; dsimp only; split <;> rfl
@[simp] theorem returnRemaining_direction (s : State) : ((returnRemaining s).1).direction = s.direction := by unfold returnRemaining; dsimp only; split <;> rfl
@[simp] theorem returnRemaining_slots (s : State) : ((returnRemaining s).1).slots = s.slots := by unfold returnRemaining; dsimp only; split <;> rfl
@[simp] theorem returnRemaining_writeIndex (s : State) : ((returnRemaining s).1).writeIndex = s.writeIndex := by unfold returnRemaining; dsimp only; split <;> rfl
@[simp] theorem returnRemaining_readIndex (s : State) : ((returnRemaining s).1).readIndex = s.readIndex := by unfold returnRemaining; dsimp only; split <;> rfl
@[simp] theorem returnRemaining_currentTarget (s : State) : ((returnRemaining s).1).currentTarget = s.currentTarget := by unfold returnRemaining; dsimp only; split <;> rfl
@[simp] theorem returnRemaining_stepOut (s : State) : ((returnRemaining s).1).stepOut = s.stepOut := by unfold returnRemaining; dsimp only; split <;> rfl
@[simp] theorem returnRemaining_dirOut (s : State) : ((returnRemaining s).1).dirOut = s.dirOut := by unfold returnRemaining; dsimp only; split <;> rfl
@[simp] theorem returnRemaining_enableOut (s : State) : ((returnRemaining s).1).enableOut = s.enableOut := by unfold returnRemaining; dsimp only; split <;> rfl
@[simp] theorem returnRemaining_servo (s : State) : ((returnRemaining s).1).servo = s.servo := by unfold returnRemaining; dsimp only; split <;> rfl
@[simp] theorem returnRemaining_now (s : State) : ((returnRemaining s).1).now = s.now := by unfold returnRemaining; dsimp only; split <;> rfl
@[simp] theorem returnRemaining_timerDeadline (s : State) : ((returnRemaining s).1).timerDeadline = s.timerDeadline := by unfold returnRemaining; dsimp only; split <;> rfl
@[simp] theorem returnRemaining_irqPending (s : State) : ((returnRemaining s).1).irqPending = s.irqPending := by unfold returnRemaining; dsimp only; split <;> rfl
@[simp] theorem returnRemaining_fgMode (s : State) : ((returnRemaining s).1).fgMode = s.fgMode := by unfold returnRemaining; dsimp only; split <;> rfl
@[simp] theorem returnRemaining_settleRemaining (s : State) : ((returnRemaining s).1).settleRemaining = s.settleRemaining := by unfold returnRemaining; dsimp only; split <;> rfl
@[simp] theorem returnRemaining_held (s : State) : ((returnRemaining s).1).held = s.held := by unfold returnRemaining; dsimp only; split <;> rfl
@[simp] theorem returnRemaining_faults (s : State) : ((returnRemaining s).1).faults = s.faults := by unfold returnRemaining; dsimp only; split <;> rfl
@[simp] theorem returnRemaining_trace (s : State) : ((returnRemaining s).1).trace = s.trace := by unfold returnRemaining; dsimp only; split <;> rfl
@[simp] theorem returnRemaining_requests (s : State) : ((returnRemaining s).1).requests = s.requests := by unfold returnRemaining; dsimp only; split <;> rfl
@[simp] theorem returnRemaining_responses (s : State) : ((returnRemaining s).1).responses = s.responses := by unfold returnRemaining; dsimp only; split <;> rfl
@[simp] theorem returnRemaining_schedule (s : State) : ((returnRemaining s).1).schedule = s.schedule := by unfold returnRemaining; dsimp only; split <;> rfl
@[simp] theorem returnRemaining_turns (s : State) : ((returnRemaining s).1).turns = s.turns := by unfold returnRemaining; dsimp only; split <;> rfl

/-! ## risingEdge -/

@[simp] theorem risingEdge_cfg (s : State) : (risingEdge s).cfg = s.cfg := rfl
@[simp] theorem risingEdge_position (s : State) : (risingEdge s).position = stepToward s.position s.target := rfl
@[simp] theorem risingEdge_target (s : State) : (risingEdge s).target = s.target := rfl
@[simp] theorem risingEdge_halfPeriod (s : State) : (risingEdge s).halfPeriod = s.halfPeriod := rfl
@[simp] theorem risingEdge_pulsePhase (s : State) : (risingEdge s).pulsePhase = true := rfl
@[simp] theorem risingEdge_nextEventTime (s : State) : (risingEdge s).nextEventTime = s.nextEventTime + s.halfPeriod := rfl
@[simp] theorem risingEdge_active (s : State) : (risingEdge s).active = s.active := rfl
@[simp] theorem risingEdge_rampStartPosition (s : State) : (risingEdge s).rampStartPosition = s.rampStartPosition := rfl
@[simp] theorem risingEdge_rampMidpoint (s : State) : (risingEdge s).rampMidpoint = s.rampMidpoint := rfl
@[simp] theorem risingEdge_rampPhase (s : State) : (risingEdge s).rampPhase = s.rampPhase := rfl
@[simp] theorem risingEdge_rampIndex (s : State) : (risingEdge s).rampIndex = s.rampIndex := rfl
@[simp] theorem risingEdge_rampIterCount (s : State) : (risingEdge s).rampIterCount = s.rampIterCount := rfl
@[simp] theorem risingEdge_targetHalfPeriod (s : State) : (risingEdge s).targetHalfPeriod = s.targetHalfPeriod := rfl
@[simp] theorem risingEdge_direction (s : State) : (risingEdge s).direction = s.direction := rfl
@[simp] theorem risingEdge_slots (s : State) : (risingEdge s).slots = s.slots := rfl
@[simp] theorem risingEdge_writeIndex (s : State) : (risingEdge s).writeIndex = s.writeIndex := rfl
@[simp] theorem risingEdge_readIndex (s : State) : (risingEdge s).readIndex = s.readIndex := rfl
@[simp] theorem risingEdge_currentTarget (s : State) : (risingEdge s).currentTarget = s.currentTarget := rfl
@[simp] theorem risingEdge_stepOut (s : State) : (risingEdge s).stepOut = true := rfl
@[simp] theorem risingEdge_dirOut (s : State) : (risingEdge s).dirOut = s.dirOut := rfl
@[simp] theorem risingEdge_enableOut (s : State) : (risingEdge s).enableOut = s.enableOut := rfl
@[simp] theorem risingEdge_servo (s : State) : (risingEdge s).servo = s.servo := rfl
@[simp] theorem risingEdge_now (s : State) : (risingEdge s).now = s.now := rfl
@[simp] theorem risingEdge_timerDeadline (s : State) : (risingEdge s).timerDeadline = s.timerDeadline := rfl
@[simp] theorem risingEdge_irqPending (s : State) : (risingEdge s).irqPending = s.irqPending := rfl
@[simp] theorem risingEdge_fgMode (s : State) : (risingEdge s).fgMode = s.fgMode := rfl
@[simp] theorem risingEdge_settleRemaining (s : State) : (risingEdge s).settleRemaining = s.settleRemaining := rfl
@[simp] theorem risingEdge_held (s : State) : (risingEdge s).held = s.held := rfl
@[simp] theorem risingEdge_faults (s : State) : (risingEdge s).faults = s.faults := rfl
@[simp] theorem risingEdge_trace (s : State) : (risingEdge s).trace = s.trace ++ [{ event := .stepRise, time := s.now }] := rfl
@[simp] theorem risingEdge_requests (s : State) : (risingEdge s).requests = s.requests := rfl
@[simp] theorem risingEdge_responses (s : State) : (risingEdge s).responses = s.responses := rfl
@[simp] theorem risingEdge_schedule (s : State) : (risingEdge s).schedule = s.schedule := rfl
@[simp] theorem risingEdge_turns (s : State) : (risingEdge s).turns = s.turns := rfl

/-! ## rampTransition -/

@[simp] theorem rampTransition_cfg (s : State) : (rampTransition s).cfg = s.cfg := by unfold rampTransition; split <;> rfl
@[simp] theorem rampTransition_position (s : State) : (rampTransition s).position = s.position := by unfold rampTransition; split <;> rfl
@[simp] theorem rampTransition_target (s : State) : (rampTransition s).target = s.target := by unfold rampTransition; split <;> rfl
@[simp] theorem rampTransition_halfPeriod (s : State) : (rampTransition s).halfPeriod = s.halfPeriod := by unfold rampTransition; split <;> rfl
@[simp] theorem rampTransition_pulsePhase (s : State) : (rampTransition s).pulsePhase = s.pulsePhase := by unfold rampTransition; split <;> rfl
@[simp] theorem rampTransition_nextEventTime (s : State) : (rampTransition s).nextEventTime = s.nextEventTime := by unfold rampTransition; split <;> rfl
@[simp] theorem rampTransition_active (s : State) : (rampTransition s).active = s.active := by unfold rampTransition; split <;> rfl
@[simp] theorem rampTransition_rampStartPosition (s : State) : (rampTransition s).rampStartPosition = s.rampStartPosition := by unfold rampTransition; split <;> rfl
@[simp] theorem rampTransition_rampMidpoint (s : State) : (rampTransition s).rampMidpoint = s.rampMidpoint := by unfold rampTransition; split <;> rfl
@[simp] theorem rampTransition_rampIndex (s : State) : (rampTransition s).rampIndex = s.rampIndex := by unfold rampTransition; split <;> rfl
@[simp] theorem rampTransition_rampIterCount (s : State) : (rampTransition s).rampIterCount = s.rampIterCount := by unfold rampTransition; split <;> rfl
@[simp] theorem rampTransition_targetHalfPeriod (s : State) : (rampTransition s).targetHalfPeriod = s.targetHalfPeriod := by unfold rampTransition; split <;> rfl
@[simp] theorem rampTransition_direction (s : State) : (rampTransition s).direction = s.direction := by unfold rampTransition; split <;> rfl
@[simp] theorem rampTransition_slots (s : State) : (rampTransition s).slots = s.slots := by unfold rampTransition; split <;> rfl
@[simp] theorem rampTransition_writeIndex (s : State) : (rampTransition s).writeIndex = s.writeIndex := by unfold rampTransition; split <;> rfl
@[simp] theorem rampTransition_readIndex (s : State) : (rampTransition s).readIndex = s.readIndex := by unfold rampTransition; split <;> rfl
@[simp] theorem rampTransition_currentTarget (s : State) : (rampTransition s).currentTarget = s.currentTarget := by unfold rampTransition; split <;> rfl
@[simp] theorem rampTransition_stepOut (s : State) : (rampTransition s).stepOut = s.stepOut := by unfold rampTransition; split <;> rfl
@[simp] theorem rampTransition_dirOut (s : State) : (rampTransition s).dirOut = s.dirOut := by unfold rampTransition; split <;> rfl
@[simp] theorem rampTransition_enableOut (s : State) : (rampTransition s).enableOut = s.enableOut := by unfold rampTransition; split <;> rfl
@[simp] theorem rampTransition_servo (s : State) : (rampTransition s).servo = s.servo := by unfold rampTransition; split <;> rfl
@[simp] theorem rampTransition_now (s : State) : (rampTransition s).now = s.now := by unfold rampTransition; split <;> rfl
@[simp] theorem rampTransition_timerDeadline (s : State) : (rampTransition s).timerDeadline = s.timerDeadline := by unfold rampTransition; split <;> rfl
@[simp] theorem rampTransition_irqPending (s : State) : (rampTransition s).irqPending = s.irqPending := by unfold rampTransition; split <;> rfl
@[simp] theorem rampTransition_fgMode (s : State) : (rampTransition s).fgMode = s.fgMode := by unfold rampTransition; split <;> rfl
@[simp] theorem rampTransition_settleRemaining (s : State) : (rampTransition s).settleRemaining = s.settleRemaining := by unfold rampTransition; split <;> rfl
@[simp] theorem rampTransition_held (s : State) : (rampTransition s).held = s.held := by unfold rampTransition; split <;> rfl
@[simp] theorem rampTransition_faults (s : State) : (rampTransition s).faults = s.faults := by unfold rampTransition; split <;> rfl
@[simp] theorem rampTransition_trace (s : State) : (rampTransition s).trace = s.trace := by unfold rampTransition; split <;> rfl
@[simp] theorem rampTransition_requests (s : State) : (rampTransition s).requests = s.requests := by unfold rampTransition; split <;> rfl
@[simp] theorem rampTransition_responses (s : State) : (rampTransition s).responses = s.responses := by unfold rampTransition; split <;> rfl
@[simp] theorem rampTransition_schedule (s : State) : (rampTransition s).schedule = s.schedule := by unfold rampTransition; split <;> rfl
@[simp] theorem rampTransition_turns (s : State) : (rampTransition s).turns = s.turns := by unfold rampTransition; split <;> rfl

/-! ## rampAccelAdjust -/

@[simp] theorem rampAccelAdjust_cfg (s : State) : (rampAccelAdjust s).cfg = s.cfg := by unfold rampAccelAdjust; split <;> rfl
@[simp] theorem rampAccelAdjust_position (s : State) : (rampAccelAdjust s).position = s.position := by unfold rampAccelAdjust; split <;> rfl
@[simp] theorem rampAccelAdjust_target (s : State) : (rampAccelAdjust s).target = s.target := by unfold rampAccelAdjust; split <;> rfl
@[simp] theorem rampAccelAdjust_pulsePhase (s : State) : (rampAccelAdjust s).pulsePhase = s.pulsePhase := by unfold rampAccelAdjust; split <;> rfl
@[simp] theorem rampAccelAdjust_nextEventTime (s : State) : (rampAccelAdjust s).nextEventTime = s.nextEventTime := by unfold rampAccelAdjust; split <;> rfl
@[simp] theorem rampAccelAdjust_active (s : State) : (rampAccelAdjust s).active = s.active := by unfold rampAccelAdjust; split <;> rfl
@[simp] theorem rampAccelAdjust_rampStartPosition (s : State) : (rampAccelAdjust s).rampStartPosition = s.rampStartPosition := by unfold rampAccelAdjust; split <;> rfl
@[simp] theorem rampAccelAdjust_rampPhase (s : State) : (rampAccelAdjust s).rampPhase = s.rampPhase := by unfold rampAccelAdjust; split <;> rfl
@[simp] theorem rampAccelAdjust_rampIterCount (s : State) : (rampAccelAdjust s).rampIterCount = s.rampIterCount := by unfold rampAccelAdjust; split <;> rfl
@[simp] theorem rampAccelAdjust_targetHalfPeriod (s : State) : (rampAccelAdjust s).targetHalfPeriod = s.targetHalfPeriod := by unfold rampAccelAdjust; split <;> rfl
@[simp] theorem rampAccelAdjust_direction (s : State) : (rampAccelAdjust s).direction = s.direction := by unfold rampAccelAdjust; split <;> rfl
@[simp] theorem rampAccelAdjust_slots (s : State) : (rampAccelAdjust s).slots = s.slots := by unfold rampAccelAdjust; split <;> rfl
@[simp] theorem rampAccelAdjust_writeIndex (s : State) : (rampAccelAdjust s).writeIndex = s.writeIndex := by unfold rampAccelAdjust; split <;> rfl
@[simp] theorem rampAccelAdjust_readIndex (s : State) : (rampAccelAdjust s).readIndex = s.readIndex := by unfold rampAccelAdjust; split <;> rfl
@[simp] theorem rampAccelAdjust_currentTarget (s : State) : (rampAccelAdjust s).currentTarget = s.currentTarget := by unfold rampAccelAdjust; split <;> rfl
@[simp] theorem rampAccelAdjust_stepOut (s : State) : (rampAccelAdjust s).stepOut = s.stepOut := by unfold rampAccelAdjust; split <;> rfl
@[simp] theorem rampAccelAdjust_dirOut (s : State) : (rampAccelAdjust s).dirOut = s.dirOut := by unfold rampAccelAdjust; split <;> rfl
@[simp] theorem rampAccelAdjust_enableOut (s : State) : (rampAccelAdjust s).enableOut = s.enableOut := by unfold rampAccelAdjust; split <;> rfl
@[simp] theorem rampAccelAdjust_servo (s : State) : (rampAccelAdjust s).servo = s.servo := by unfold rampAccelAdjust; split <;> rfl
@[simp] theorem rampAccelAdjust_now (s : State) : (rampAccelAdjust s).now = s.now := by unfold rampAccelAdjust; split <;> rfl
@[simp] theorem rampAccelAdjust_timerDeadline (s : State) : (rampAccelAdjust s).timerDeadline = s.timerDeadline := by unfold rampAccelAdjust; split <;> rfl
@[simp] theorem rampAccelAdjust_irqPending (s : State) : (rampAccelAdjust s).irqPending = s.irqPending := by unfold rampAccelAdjust; split <;> rfl
@[simp] theorem rampAccelAdjust_fgMode (s : State) : (rampAccelAdjust s).fgMode = s.fgMode := by unfold rampAccelAdjust; split <;> rfl
@[simp] theorem rampAccelAdjust_settleRemaining (s : State) : (rampAccelAdjust s).settleRemaining = s.settleRemaining := by unfold rampAccelAdjust; split <;> rfl
@[simp] theorem rampAccelAdjust_held (s : State) : (rampAccelAdjust s).held = s.held := by unfold rampAccelAdjust; split <;> rfl
@[simp] theorem rampAccelAdjust_faults (s : State) : (rampAccelAdjust s).faults = s.faults := by unfold rampAccelAdjust; split <;> rfl
@[simp] theorem rampAccelAdjust_trace (s : State) : (rampAccelAdjust s).trace = s.trace := by unfold rampAccelAdjust; split <;> rfl
@[simp] theorem rampAccelAdjust_requests (s : State) : (rampAccelAdjust s).requests = s.requests := by unfold rampAccelAdjust; split <;> rfl
@[simp] theorem rampAccelAdjust_responses (s : State) : (rampAccelAdjust s).responses = s.responses := by unfold rampAccelAdjust; split <;> rfl
@[simp] theorem rampAccelAdjust_schedule (s : State) : (rampAccelAdjust s).schedule = s.schedule := by unfold rampAccelAdjust; split <;> rfl
@[simp] theorem rampAccelAdjust_turns (s : State) : (rampAccelAdjust s).turns = s.turns := by unfold rampAccelAdjust; split <;> rfl

/-! ## rampDecelAdjust -/

@[simp] theorem rampDecelAdjust_cfg (s : State) : (rampDecelAdjust s).cfg = s.cfg := by unfold rampDecelAdjust; split <;> rfl
@[simp] theorem rampDecelAdjust_position (s : State) : (rampDecelAdjust s).position = s.position := by unfold rampDecelAdjust; split <;> rfl
@[simp] theorem rampDecelAdjust_target (s : State) : (rampDecelAdjust s).target = s.target := by unfold rampDecelAdjust; split <;> rfl
@[simp] theorem rampDecelAdjust_pulsePhase (s : State) : (rampDecelAdjust s).pulsePhase = s.pulsePhase := by unfold rampDecelAdjust; split <;> rfl
@[simp] theorem rampDecelAdjust_nextEventTime (s : State) : (rampDecelAdjust s).nextEventTime = s.nextEventTime := by unfold rampDecelAdjust; split <;> rfl
@[simp] theorem rampDecelAdjust_active (s : State) : (rampDecelAdjust s).active = s.active := by unfold rampDecelAdjust; split <;> rfl
@[simp] theorem rampDecelAdjust_rampStartPosition (s : State) : (rampDecelAdjust s).rampStartPosition = s.rampStartPosition := by unfold rampDecelAdjust; split <;> rfl
@[simp] theorem rampDecelAdjust_rampMidpoint (s : State) : (rampDecelAdjust s).rampMidpoint = s.rampMidpoint := by unfold rampDecelAdjust; split <;> rfl
@[simp] theorem rampDecelAdjust_rampPhase (s : State) : (rampDecelAdjust s).rampPhase = s.rampPhase := by unfold rampDecelAdjust; split <;> rfl
@[simp] theorem rampDecelAdjust_rampIterCount (s : State) : (rampDecelAdjust s).rampIterCount = s.rampIterCount := by unfold rampDecelAdjust; split <;> rfl
@[simp] theorem rampDecelAdjust_targetHalfPeriod (s : State) : (rampDecelAdjust s).targetHalfPeriod = s.targetHalfPeriod := by unfold rampDecelAdjust; split <;> rfl
@[simp] theorem rampDecelAdjust_direction (s : State) : (rampDecelAdjust s).direction = s.direction := by unfold rampDecelAdjust; split <;> rfl
@[simp] theorem rampDecelAdjust_slots (s : State) : (rampDecelAdjust s).slots = s.slots := by unfold rampDecelAdjust; split <;> rfl
@[simp] theorem rampDecelAdjust_writeIndex (s : State) : (rampDecelAdjust s).writeIndex = s.writeIndex := by unfold rampDecelAdjust; split <;> rfl
@[simp] theorem rampDecelAdjust_readIndex (s : State) : (rampDecelAdjust s).readIndex = s.readIndex := by unfold rampDecelAdjust; split <;> rfl
@[simp] theorem rampDecelAdjust_currentTarget (s : State) : (rampDecelAdjust s).currentTarget = s.currentTarget := by unfold rampDecelAdjust; split <;> rfl
@[simp] theorem rampDecelAdjust_stepOut (s : State) : (rampDecelAdjust s).stepOut = s.stepOut := by unfold rampDecelAdjust; split <;> rfl
@[simp] theorem rampDecelAdjust_dirOut (s : State) : (rampDecelAdjust s).dirOut = s.dirOut := by unfold rampDecelAdjust; split <;> rfl
@[simp] theorem rampDecelAdjust_enableOut (s : State) : (rampDecelAdjust s).enableOut = s.enableOut := by unfold rampDecelAdjust; split <;> rfl
@[simp] theorem rampDecelAdjust_servo (s : State) : (rampDecelAdjust s).servo = s.servo := by unfold rampDecelAdjust; split <;> rfl
@[simp] theorem rampDecelAdjust_now (s : State) : (rampDecelAdjust s).now = s.now := by unfold rampDecelAdjust; split <;> rfl
@[simp] theorem rampDecelAdjust_timerDeadline (s : State) : (rampDecelAdjust s).timerDeadline = s.timerDeadline := by unfold rampDecelAdjust; split <;> rfl
@[simp] theorem rampDecelAdjust_irqPending (s : State) : (rampDecelAdjust s).irqPending = s.irqPending := by unfold rampDecelAdjust; split <;> rfl
@[simp] theorem rampDecelAdjust_fgMode (s : State) : (rampDecelAdjust s).fgMode = s.fgMode := by unfold rampDecelAdjust; split <;> rfl
@[simp] theorem rampDecelAdjust_settleRemaining (s : State) : (rampDecelAdjust s).settleRemaining = s.settleRemaining := by unfold rampDecelAdjust; split <;> rfl
@[simp] theorem rampDecelAdjust_held (s : State) : (rampDecelAdjust s).held = s.held := by unfold rampDecelAdjust; split <;> rfl
@[simp] theorem rampDecelAdjust_faults (s : State) : (rampDecelAdjust s).faults = s.faults := by unfold rampDecelAdjust; split <;> rfl
@[simp] theorem rampDecelAdjust_trace (s : State) : (rampDecelAdjust s).trace = s.trace := by unfold rampDecelAdjust; split <;> rfl
@[simp] theorem rampDecelAdjust_requests (s : State) : (rampDecelAdjust s).requests = s.requests := by unfold rampDecelAdjust; split <;> rfl
@[simp] theorem rampDecelAdjust_responses (s : State) : (rampDecelAdjust s).responses = s.responses := by unfold rampDecelAdjust; split <;> rfl
@[simp] theorem rampDecelAdjust_schedule (s : State) : (rampDecelAdjust s).schedule = s.schedule := by unfold rampDecelAdjust; split <;> rfl
@[simp] theorem rampDecelAdjust_turns (s : State) : (rampDecelAdjust s).turns = s.turns := by unfold rampDecelAdjust; split <;> rfl

/-! ## rampAdjustAndReload -/

@[simp] theorem rampAdjustAndReload_cfg (s : State) : (rampAdjustAndReload s).cfg = s.cfg := by unfold rampAdjustAndReload; dsimp only; split <;> simp
@[simp] theorem rampAdjustAndReload_position (s : State) : (rampAdjustAndReload s).position = s.position := by unfold rampAdjustAndReload; dsimp only; split <;> simp
@[simp] theorem rampAdjustAndReload_target (s : State) : (rampAdjustAndReload s).target = s.target := by unfold rampAdjustAndReload; dsimp only; split <;> simp
@[simp] theorem rampAdjustAndReload_pulsePhase (s : State) : (rampAdjustAndReload s).pulsePhase = s.pulsePhase := by unfold rampAdjustAndReload; dsimp only; split <;> simp
@[simp] theorem rampAdjustAndReload_nextEventTime (s : State) : (rampAdjustAndReload s).nextEventTime = s.nextEventTime := by unfold rampAdjustAndReload; dsimp only; split <;> simp
@[simp] theorem rampAdjustAndReload_active (s : State) : (rampAdjustAndReload s).active = s.active := by unfold rampAdjustAndReload; dsimp only; split <;> simp
@[simp] theorem rampAdjustAndReload_rampStartPosition (s : State) : (rampAdjustAndReload s).rampStartPosition = s.rampStartPosition := by unfold rampAdjustAndReload; dsimp only; split <;> simp
@[simp] theorem rampAdjustAndReload_rampPhase (s : State) : (rampAdjustAndReload s).rampPhase = s.rampPhase := by unfold rampAdjustAndReload; dsimp only; split <;> simp
@[simp] theorem rampAdjustAndReload_targetHalfPeriod (s : State) : (rampAdjustAndReload s).targetHalfPeriod = s.targetHalfPeriod := by unfold rampAdjustAndReload; dsimp only; split <;> simp
@[simp] theorem rampAdjustAndReload_direction (s : State) : (rampAdjustAndReload s).direction = s.direction := by unfold rampAdjustAndReload; dsimp only; split <;> simp
@[simp] theorem rampAdjustAndReload_slots (s : State) : (rampAdjustAndReload s).slots = s.slots := by unfold rampAdjustAndReload; dsimp only; split <;> simp
@[simp] theorem rampAdjustAndReload_writeIndex (s : State) : (rampAdjustAndReload s).writeIndex = s.writeIndex := by unfold rampAdjustAndReload; dsimp only; split <;> simp
@[simp] theorem rampAdjustAndReload_readIndex (s : State) : (rampAdjustAndReload s).readIndex = s.readIndex := by unfold rampAdjustAndReload; dsimp only; split <;> simp
@[simp] theorem rampAdjustAndReload_currentTarget (s : State) : (rampAdjustAndReload s).currentTarget = s.currentTarget := by unfold rampAdjustAndReload; dsimp only; split <;> simp
@[simp] theorem rampAdjustAndReload_stepOut (s : State) : (rampAdjustAndReload s).stepOut = s.stepOut := by unfold rampAdjustAndReload; dsimp only; split <;> simp
@[simp] theorem rampAdjustAndReload_dirOut (s : State) : (rampAdjustAndReload s).dirOut = s.dirOut := by unfold rampAdjustAndReload; dsimp only; split <;> simp
@[simp] theorem rampAdjustAndReload_enableOut (s : State) : (rampAdjustAndReload s).enableOut = s.enableOut := by unfold rampAdjustAndReload; dsimp only; split <;> simp
@[simp] theorem rampAdjustAndReload_servo (s : State) : (rampAdjustAndReload s).servo = s.servo := by unfold rampAdjustAndReload; dsimp only; split <;> simp
@[simp] theorem rampAdjustAndReload_now (s : State) : (rampAdjustAndReload s).now = s.now := by unfold rampAdjustAndReload; dsimp only; split <;> simp
@[simp] theorem rampAdjustAndReload_timerDeadline (s : State) : (rampAdjustAndReload s).timerDeadline = s.timerDeadline := by unfold rampAdjustAndReload; dsimp only; split <;> simp
@[simp] theorem rampAdjustAndReload_irqPending (s : State) : (rampAdjustAndReload s).irqPending = s.irqPending := by unfold rampAdjustAndReload; dsimp only; split <;> simp
@[simp] theorem rampAdjustAndReload_fgMode (s : State) : (rampAdjustAndReload s).fgMode = s.fgMode := by unfold rampAdjustAndReload; dsimp only; split <;> simp
@[simp] theorem rampAdjustAndReload_settleRemaining (s : State) : (rampAdjustAndReload s).settleRemaining = s.settleRemaining := by unfold rampAdjustAndReload; dsimp only; split <;> simp
@[simp] theorem rampAdjustAndReload_held (s : State) : (rampAdjustAndReload s).held = s.held := by unfold rampAdjustAndReload; dsimp only; split <;> simp
@[simp] theorem rampAdjustAndReload_faults (s : State) : (rampAdjustAndReload s).faults = s.faults := by unfold rampAdjustAndReload; dsimp only; split <;> simp
@[simp] theorem rampAdjustAndReload_trace (s : State) : (rampAdjustAndReload s).trace = s.trace := by unfold rampAdjustAndReload; dsimp only; split <;> simp
@[simp] theorem rampAdjustAndReload_requests (s : State) : (rampAdjustAndReload s).requests = s.requests := by unfold rampAdjustAndReload; dsimp only; split <;> simp
@[simp] theorem rampAdjustAndReload_responses (s : State) : (rampAdjustAndReload s).responses = s.responses := by unfold rampAdjustAndReload; dsimp only; split <;> simp
@[simp] theorem rampAdjustAndReload_schedule (s : State) : (rampAdjustAndReload s).schedule = s.schedule := by unfold rampAdjustAndReload; dsimp only; split <;> simp
@[simp] theorem rampAdjustAndReload_turns (s : State) : (rampAdjustAndReload s).turns = s.turns := by unfold rampAdjustAndReload; dsimp only; split <;> simp

/-! ## rampCountdown -/

@[simp] theorem rampCountdown_cfg (s : State) : (rampCountdown s).cfg = s.cfg := by unfold rampCountdown; dsimp only; split; { simp }; { rfl }
@[simp] theorem rampCountdown_position (s : State) : (rampCountdown s).position = s.position := by unfold rampCountdown; dsimp only; split; { simp }; { rfl }
@[simp] theorem rampCountdown_target (s : State) : (rampCountdown s).target = s.target := by unfold rampCountdown; dsimp only; split; { simp }; { rfl }
@[simp] theorem rampCountdown_pulsePhase (s : State) : (rampCountdown s).pulsePhase = s.pulsePhase := by unfold rampCountdown; dsimp only; split; { simp }; { rfl }
@[simp] theorem rampCountdown_nextEventTime (s : State) : (rampCountdown s).nextEventTime = s.nextEventTime := by unfold rampCountdown; dsimp only; split; { simp }; { rfl }
@[simp] theorem rampCountdown_active (s : State) : (rampCountdown s).active = s.active := by unfold rampCountdown; dsimp only; split; { simp }; { rfl }
@[simp] theorem rampCountdown_rampStartPosition (s : State) : (rampCountdown s).rampStartPosition = s.rampStartPosition := by unfold rampCountdown; dsimp only; split; { simp }; { rfl }
@[simp] theorem rampCountdown_rampPhase (s : State) : (rampCountdown s).rampPhase = s.rampPhase := by unfold rampCountdown; dsimp only; split; { simp }; { rfl }
@[simp] theorem rampCountdown_targetHalfPeriod (s : State) : (rampCountdown s).targetHalfPeriod = s.targetHalfPeriod := by unfold rampCountdown; dsimp only; split; { simp }; { rfl }
@[simp] theorem rampCountdown_direction (s : State) : (rampCountdown s).direction = s.direction := by unfold rampCountdown; dsimp only; split; { simp }; { rfl }
@[simp] theorem rampCountdown_slots (s : State) : (rampCountdown s).slots = s.slots := by unfold rampCountdown; dsimp only; split; { simp }; { rfl }
@[simp] theorem rampCountdown_writeIndex (s : State) : (rampCountdown s).writeIndex = s.writeIndex := by unfold rampCountdown; dsimp only; split; { simp }; { rfl }
@[simp] theorem rampCountdown_readIndex (s : State) : (rampCountdown s).readIndex = s.readIndex := by unfold rampCountdown; dsimp only; split; { simp }; { rfl }
@[simp] theorem rampCountdown_currentTarget (s : State) : (rampCountdown s).currentTarget = s.currentTarget := by unfold rampCountdown; dsimp only; split; { simp }; { rfl }
@[simp] theorem rampCountdown_stepOut (s : State) : (rampCountdown s).stepOut = s.stepOut := by unfold rampCountdown; dsimp only; split; { simp }; { rfl }
@[simp] theorem rampCountdown_dirOut (s : State) : (rampCountdown s).dirOut = s.dirOut := by unfold rampCountdown; dsimp only; split; { simp }; { rfl }
@[simp] theorem rampCountdown_enableOut (s : State) : (rampCountdown s).enableOut = s.enableOut := by unfold rampCountdown; dsimp only; split; { simp }; { rfl }
@[simp] theorem rampCountdown_servo (s : State) : (rampCountdown s).servo = s.servo := by unfold rampCountdown; dsimp only; split; { simp }; { rfl }
@[simp] theorem rampCountdown_now (s : State) : (rampCountdown s).now = s.now := by unfold rampCountdown; dsimp only; split; { simp }; { rfl }
@[simp] theorem rampCountdown_timerDeadline (s : State) : (rampCountdown s).timerDeadline = s.timerDeadline := by unfold rampCountdown; dsimp only; split; { simp }; { rfl }
@[simp] theorem rampCountdown_irqPending (s : State) : (rampCountdown s).irqPending = s.irqPending := by unfold rampCountdown; dsimp only; split; { simp }; { rfl }
@[simp] theorem rampCountdown_fgMode (s : State) : (rampCountdown s).fgMode = s.fgMode := by unfold rampCountdown; dsimp only; split; { simp }; { rfl }
@[simp] theorem rampCountdown_settleRemaining (s : State) : (rampCountdown s).settleRemaining = s.settleRemaining := by unfold rampCountdown; dsimp only; split; { simp }; { rfl }
@[simp] theorem rampCountdown_held (s : State) : (rampCountdown s).held = s.held := by unfold rampCountdown; dsimp only; split; { simp }; { rfl }
@[simp] theorem rampCountdown_faults (s : State) : (rampCountdown s).faults = s.faults := by unfold rampCountdown; dsimp only; split; { simp }; { rfl }
@[simp] theorem rampCountdown_trace (s : State) : (rampCountdown s).trace = s.trace := by unfold rampCountdown; dsimp only; split; { simp }; { rfl }
@[simp] theorem rampCountdown_requests (s : State) : (rampCountdown s).requests = s.requests := by unfold rampCountdown; dsimp only; split; { simp }; { rfl }
@[simp] theorem rampCountdown_responses (s : State) : (rampCountdown s).responses = s.responses := by unfold rampCountdown; dsimp only; split; { simp }; { rfl }
@[simp] theorem rampCountdown_schedule (s : State) : (rampCountdown s).schedule = s.schedule := by unfold rampCountdown; dsimp only; split; { simp }; { rfl }
@[simp] theorem rampCountdown_turns (s : State) : (rampCountdown s).turns = s.turns := by unfold rampCountdown; dsimp only; split; { simp }; { rfl }

/-! ## rampAdvance -/

@[simp] theorem rampAdvance_cfg (s : State) : (rampAdvance s).cfg = s.cfg := by unfold rampAdvance; simp
@[simp] theorem rampAdvance_position (s : State) : (rampAdvance s).position = s.position := by unfold rampAdvance; simp
@[simp] theorem rampAdvance_target (s : State) : (rampAdvance s).target = s.target := by unfold rampAdvance; simp
@[simp] theorem rampAdvance_pulsePhase (s : State) : (rampAdvance s).pulsePhase = s.pulsePhase := by unfold rampAdvance; simp
@[simp] theorem rampAdvance_nextEventTime (s : State) : (rampAdvance s).nextEventTime = s.nextEventTime := by unfold rampAdvance; simp
@[simp] theorem rampAdvance_active (s : State) : (rampAdvance s).active = s.active := by unfold rampAdvance; simp
@[simp] theorem rampAdvance_rampStartPosition (s : State) : (rampAdvance s).rampStartPosition = s.rampStartPosition := by unfold rampAdvance; simp
@[simp] theorem rampAdvance_targetHalfPeriod (s : State) : (rampAdvance s).targetHalfPeriod = s.targetHalfPeriod := by unfold rampAdvance; simp
@[simp] theorem rampAdvance_direction (s : State) : (rampAdvance s).direction = s.direction := by unfold rampAdvance; simp
@[simp] theorem rampAdvance_slots (s : State) : (rampAdvance s).slots = s.slots := by unfold rampAdvance; simp
@[simp] theorem rampAdvance_writeIndex (s : State) : (rampAdvance s).writeIndex = s.writeIndex := by unfold rampAdvance; simp
@[simp] theorem rampAdvance_readIndex (s : State) : (rampAdvance s).readIndex = s.readIndex := by unfold rampAdvance; simp
@[simp] theorem rampAdvance_currentTarget (s : State) : (rampAdvance s).currentTarget = s.currentTarget := by unfold rampAdvance; simp
@[simp] theorem rampAdvance_stepOut (s : State) : (rampAdvance s).stepOut = s.stepOut := by unfold rampAdvance; simp
@[simp] theorem rampAdvance_dirOut (s : State) : (rampAdvance s).dirOut = s.dirOut := by unfold rampAdvance; simp
@[simp] theorem rampAdvance_enableOut (s : State) : (rampAdvance s).enableOut = s.enableOut := by unfold rampAdvance; simp
@[simp] theorem rampAdvance_servo (s : State) : (rampAdvance s).servo = s.servo := by unfold rampAdvance; simp
@[simp] theorem rampAdvance_now (s : State) : (rampAdvance s).now = s.now := by unfold rampAdvance; simp
@[simp] theorem rampAdvance_timerDeadline (s : State) : (rampAdvance s).timerDeadline = s.timerDeadline := by unfold rampAdvance; simp
@[simp] theorem rampAdvance_irqPending (s : State) : (rampAdvance s).irqPending = s.irqPending := by unfold rampAdvance; simp
@[simp] theorem rampAdvance_fgMode (s : State) : (rampAdvance s).fgMode = s.fgMode := by unfold rampAdvance; simp
@[simp] theorem rampAdvance_settleRemaining (s : State) : (rampAdvance s).settleRemaining = s.settleRemaining := by unfold rampAdvance; simp
@[simp] theorem rampAdvance_held (s : State) : (rampAdvance s).held = s.held := by unfold rampAdvance; simp
@[simp] theorem rampAdvance_faults (s : State) : (rampAdvance s).faults = s.faults := by unfold rampAdvance; simp
@[simp] theorem rampAdvance_trace (s : State) : (rampAdvance s).trace = s.trace := by unfold rampAdvance; simp
@[simp] theorem rampAdvance_requests (s : State) : (rampAdvance s).requests = s.requests := by unfold rampAdvance; simp
@[simp] theorem rampAdvance_responses (s : State) : (rampAdvance s).responses = s.responses := by unfold rampAdvance; simp
@[simp] theorem rampAdvance_schedule (s : State) : (rampAdvance s).schedule = s.schedule := by unfold rampAdvance; simp
@[simp] theorem rampAdvance_turns (s : State) : (rampAdvance s).turns = s.turns := by unfold rampAdvance; simp

/-! ## rampInit -/

@[simp] theorem rampInit_cfg (δ : Int) (s : State) : (rampInit δ s).cfg = s.cfg := rfl
@[simp] theorem rampInit_position (δ : Int) (s : State) : (rampInit δ s).position = s.position := rfl
@[simp] theorem rampInit_target (δ : Int) (s : State) : (rampInit δ s).target = s.target := rfl
@[simp] theorem rampInit_halfPeriod (δ : Int) (s : State) : (rampInit δ s).halfPeriod = u32 (rampSlowest s.cfg s.targetHalfPeriod) := rfl
@[simp] theorem rampInit_pulsePhase (δ : Int) (s : State) : (rampInit δ s).pulsePhase = s.pulsePhase := rfl
@[simp] theorem rampInit_nextEventTime (δ : Int) (s : State) : (rampInit δ s).nextEventTime = s.nextEventTime := rfl
@[simp] theorem rampInit_active (δ : Int) (s : State) : (rampInit δ s).active = s.active := rfl
@[simp] theorem rampInit_rampStartPosition (δ : Int) (s : State) : (rampInit δ s).rampStartPosition = s.position := rfl
@[simp] theorem rampInit_rampPhase (δ : Int) (s : State) : (rampInit δ s).rampPhase = .accel := rfl
@[simp] theorem rampInit_rampIndex (δ : Int) (s : State) : (rampInit δ s).rampIndex = 0 := rfl
@[simp] theorem rampInit_rampIterCount (δ : Int) (s : State) : (rampInit δ s).rampIterCount = rampTableRead s.cfg 0 := rfl
@[simp] theorem rampInit_targetHalfPeriod (δ : Int) (s : State) : (rampInit δ s).targetHalfPeriod = s.targetHalfPeriod := rfl
@[simp] theorem rampInit_direction (δ : Int) (s : State) : (rampInit δ s).direction = s.direction := rfl
@[simp] theorem rampInit_slots (δ : Int) (s : State) : (rampInit δ s).slots = s.slots := rfl
@[simp] theorem rampInit_writeIndex (δ : Int) (s : State) : (rampInit δ s).writeIndex = s.writeIndex := rfl
@[simp] theorem rampInit_readIndex (δ : Int) (s : State) : (rampInit δ s).readIndex = s.readIndex := rfl
@[simp] theorem rampInit_currentTarget (δ : Int) (s : State) : (rampInit δ s).currentTarget = s.currentTarget := rfl
@[simp] theorem rampInit_stepOut (δ : Int) (s : State) : (rampInit δ s).stepOut = s.stepOut := rfl
@[simp] theorem rampInit_dirOut (δ : Int) (s : State) : (rampInit δ s).dirOut = s.dirOut := rfl
@[simp] theorem rampInit_enableOut (δ : Int) (s : State) : (rampInit δ s).enableOut = s.enableOut := rfl
@[simp] theorem rampInit_servo (δ : Int) (s : State) : (rampInit δ s).servo = s.servo := rfl
@[simp] theorem rampInit_now (δ : Int) (s : State) : (rampInit δ s).now = s.now := rfl
@[simp] theorem rampInit_timerDeadline (δ : Int) (s : State) : (rampInit δ s).timerDeadline = s.timerDeadline := rfl
@[simp] theorem rampInit_irqPending (δ : Int) (s : State) : (rampInit δ s).irqPending = s.irqPending := rfl
@[simp] theorem rampInit_fgMode (δ : Int) (s : State) : (rampInit δ s).fgMode = s.fgMode := rfl
@[simp] theorem rampInit_settleRemaining (δ : Int) (s : State) : (rampInit δ s).settleRemaining = s.settleRemaining := rfl
@[simp] theorem rampInit_held (δ : Int) (s : State) : (rampInit δ s).held = s.held := rfl
@[simp] theorem rampInit_faults (δ : Int) (s : State) : (rampInit δ s).faults = s.faults := rfl
@[simp] theorem rampInit_trace (δ : Int) (s : State) : (rampInit δ s).trace = s.trace := rfl
@[simp] theorem rampInit_requests (δ : Int) (s : State) : (rampInit δ s).requests = s.requests := rfl
@[simp] theorem rampInit_responses (δ : Int) (s : State) : (rampInit δ s).responses = s.responses := rfl
@[simp] theorem rampInit_schedule (δ : Int) (s : State) : (rampInit δ s).schedule = s.schedule := rfl
@[simp] theorem rampInit_turns (δ : Int) (s : State) : (rampInit δ s).turns = s.turns := rfl

/-! ## setSpeed -/

@[simp] theorem setSpeed_cfg (δ : Int) (hp : BitVec 32) (s : State) : (setSpeed δ hp s).cfg = s.cfg := by unfold setSpeed; dsimp only; split <;> rfl
@[simp] theorem setSpeed_position (δ : Int) (hp : BitVec 32) (s : State) : (setSpeed δ hp s).position = s.position := by unfold setSpeed; dsimp only; split <;> rfl
@[simp] theorem setSpeed_target (δ : Int) (hp : BitVec 32) (s : State) : (setSpeed δ hp s).target = s.target := by unfold setSpeed; dsimp only; split <;> rfl
@[simp] theorem setSpeed_pulsePhase (δ : Int) (hp : BitVec 32) (s : State) : (setSpeed δ hp s).pulsePhase = s.pulsePhase := by unfold setSpeed; dsimp only; split <;> rfl
@[simp] theorem setSpeed_nextEventTime (δ : Int) (hp : BitVec 32) (s : State) : (setSpeed δ hp s).nextEventTime = s.nextEventTime := by unfold setSpeed; dsimp only; split <;> rfl
@[simp] theorem setSpeed_active (δ : Int) (hp : BitVec 32) (s : State) : (setSpeed δ hp s).active = s.active := by unfold setSpeed; dsimp only; split <;> rfl
@[simp] theorem setSpeed_targetHalfPeriod (δ : Int) (hp : BitVec 32) (s : State) : (setSpeed δ hp s).targetHalfPeriod = hp := by unfold setSpeed; dsimp only; split <;> rfl
@[simp] theorem setSpeed_direction (δ : Int) (hp : BitVec 32) (s : State) : (setSpeed δ hp s).direction = s.direction := by unfold setSpeed; dsimp only; split <;> rfl
@[simp] theorem setSpeed_slots (δ : Int) (hp : BitVec 32) (s : State) : (setSpeed δ hp s).slots = s.slots := by unfold setSpeed; dsimp only; split <;> rfl
@[simp] theorem setSpeed_writeIndex (δ : Int) (hp : BitVec 32) (s : State) : (setSpeed δ hp s).writeIndex = s.writeIndex := by unfold setSpeed; dsimp only; split <;> rfl
@[simp] theorem setSpeed_readIndex (δ : Int) (hp : BitVec 32) (s : State) : (setSpeed δ hp s).readIndex = s.readIndex := by unfold setSpeed; dsimp only; split <;> rfl
@[simp] theorem setSpeed_currentTarget (δ : Int) (hp : BitVec 32) (s : State) : (setSpeed δ hp s).currentTarget = s.currentTarget := by unfold setSpeed; dsimp only; split <;> rfl
@[simp] theorem setSpeed_stepOut (δ : Int) (hp : BitVec 32) (s : State) : (setSpeed δ hp s).stepOut = s.stepOut := by unfold setSpeed; dsimp only; split <;> rfl
@[simp] theorem setSpeed_dirOut (δ : Int) (hp : BitVec 32) (s : State) : (setSpeed δ hp s).dirOut = s.dirOut := by unfold setSpeed; dsimp only; split <;> rfl
@[simp] theorem setSpeed_enableOut (δ : Int) (hp : BitVec 32) (s : State) : (setSpeed δ hp s).enableOut = s.enableOut := by unfold setSpeed; dsimp only; split <;> rfl
@[simp] theorem setSpeed_servo (δ : Int) (hp : BitVec 32) (s : State) : (setSpeed δ hp s).servo = s.servo := by unfold setSpeed; dsimp only; split <;> rfl
@[simp] theorem setSpeed_now (δ : Int) (hp : BitVec 32) (s : State) : (setSpeed δ hp s).now = s.now := by unfold setSpeed; dsimp only; split <;> rfl
@[simp] theorem setSpeed_timerDeadline (δ : Int) (hp : BitVec 32) (s : State) : (setSpeed δ hp s).timerDeadline = s.timerDeadline := by unfold setSpeed; dsimp only; split <;> rfl
@[simp] theorem setSpeed_irqPending (δ : Int) (hp : BitVec 32) (s : State) : (setSpeed δ hp s).irqPending = s.irqPending := by unfold setSpeed; dsimp only; split <;> rfl
@[simp] theorem setSpeed_fgMode (δ : Int) (hp : BitVec 32) (s : State) : (setSpeed δ hp s).fgMode = s.fgMode := by unfold setSpeed; dsimp only; split <;> rfl
@[simp] theorem setSpeed_settleRemaining (δ : Int) (hp : BitVec 32) (s : State) : (setSpeed δ hp s).settleRemaining = s.settleRemaining := by unfold setSpeed; dsimp only; split <;> rfl
@[simp] theorem setSpeed_held (δ : Int) (hp : BitVec 32) (s : State) : (setSpeed δ hp s).held = s.held := by unfold setSpeed; dsimp only; split <;> rfl
@[simp] theorem setSpeed_faults (δ : Int) (hp : BitVec 32) (s : State) : (setSpeed δ hp s).faults = s.faults := by unfold setSpeed; dsimp only; split <;> rfl
@[simp] theorem setSpeed_trace (δ : Int) (hp : BitVec 32) (s : State) : (setSpeed δ hp s).trace = s.trace := by unfold setSpeed; dsimp only; split <;> rfl
@[simp] theorem setSpeed_requests (δ : Int) (hp : BitVec 32) (s : State) : (setSpeed δ hp s).requests = s.requests := by unfold setSpeed; dsimp only; split <;> rfl
@[simp] theorem setSpeed_responses (δ : Int) (hp : BitVec 32) (s : State) : (setSpeed δ hp s).responses = s.responses := by unfold setSpeed; dsimp only; split <;> rfl
@[simp] theorem setSpeed_schedule (δ : Int) (hp : BitVec 32) (s : State) : (setSpeed δ hp s).schedule = s.schedule := by unfold setSpeed; dsimp only; split <;> rfl
@[simp] theorem setSpeed_turns (δ : Int) (hp : BitVec 32) (s : State) : (setSpeed δ hp s).turns = s.turns := by unfold setSpeed; dsimp only; split <;> rfl

/-! ## acceptMove -/

@[simp] theorem acceptMove_cfg (d : BitVec 16) (δ t : Int) (s : State) : (acceptMove d δ t s).cfg = s.cfg := by simp [acceptMove]
@[simp] theorem acceptMove_position (d : BitVec 16) (δ t : Int) (s : State) : (acceptMove d δ t s).position = s.position := by simp [acceptMove]
@[simp] theorem acceptMove_target (d : BitVec 16) (δ t : Int) (s : State) : (acceptMove d δ t s).target = u32 t := by simp [acceptMove]
@[simp] theorem acceptMove_pulsePhase (d : BitVec 16) (δ t : Int) (s : State) : (acceptMove d δ t s).pulsePhase = false := by simp [acceptMove]
@[simp] theorem acceptMove_nextEventTime (d : BitVec 16) (δ t : Int) (s : State) : (acceptMove d δ t s).nextEventTime = s.nextEventTime := by simp [acceptMove]
@[simp] theorem acceptMove_active (d : BitVec 16) (δ t : Int) (s : State) : (acceptMove d δ t s).active = true := by simp [acceptMove]
@[simp] theorem acceptMove_targetHalfPeriod (d : BitVec 16) (δ t : Int) (s : State) : (acceptMove d δ t s).targetHalfPeriod = u32 (halfPeriodFor s.cfg d δ) := by simp [acceptMove]
@[simp] theorem acceptMove_direction (d : BitVec 16) (δ t : Int) (s : State) : (acceptMove d δ t s).direction = directionOf δ := by simp [acceptMove]
@[simp] theorem acceptMove_slots (d : BitVec 16) (δ t : Int) (s : State) : (acceptMove d δ t s).slots = s.slots := by simp [acceptMove]
@[simp] theorem acceptMove_writeIndex (d : BitVec 16) (δ t : Int) (s : State) : (acceptMove d δ t s).writeIndex = s.writeIndex := by simp [acceptMove]
@[simp] theorem acceptMove_readIndex (d : BitVec 16) (δ t : Int) (s : State) : (acceptMove d δ t s).readIndex = s.readIndex := by simp [acceptMove]
@[simp] theorem acceptMove_currentTarget (d : BitVec 16) (δ t : Int) (s : State) : (acceptMove d δ t s).currentTarget = s.currentTarget := by simp [acceptMove]
@[simp] theorem acceptMove_stepOut (d : BitVec 16) (δ t : Int) (s : State) : (acceptMove d δ t s).stepOut = s.stepOut := by simp [acceptMove]
@[simp] theorem acceptMove_dirOut (d : BitVec 16) (δ t : Int) (s : State) : (acceptMove d δ t s).dirOut = decide (directionOf δ = .forward) := by simp [acceptMove]
@[simp] theorem acceptMove_enableOut (d : BitVec 16) (δ t : Int) (s : State) : (acceptMove d δ t s).enableOut = s.enableOut := by simp [acceptMove]
@[simp] theorem acceptMove_servo (d : BitVec 16) (δ t : Int) (s : State) : (acceptMove d δ t s).servo = s.servo := by simp [acceptMove]
@[simp] theorem acceptMove_now (d : BitVec 16) (δ t : Int) (s : State) : (acceptMove d δ t s).now = s.now := by simp [acceptMove]
@[simp] theorem acceptMove_timerDeadline (d : BitVec 16) (δ t : Int) (s : State) : (acceptMove d δ t s).timerDeadline = s.timerDeadline := by simp [acceptMove]
@[simp] theorem acceptMove_irqPending (d : BitVec 16) (δ t : Int) (s : State) : (acceptMove d δ t s).irqPending = s.irqPending := by simp [acceptMove]
@[simp] theorem acceptMove_fgMode (d : BitVec 16) (δ t : Int) (s : State) : (acceptMove d δ t s).fgMode = s.fgMode := by simp [acceptMove]
@[simp] theorem acceptMove_settleRemaining (d : BitVec 16) (δ t : Int) (s : State) : (acceptMove d δ t s).settleRemaining = s.settleRemaining := by simp [acceptMove]
@[simp] theorem acceptMove_held (d : BitVec 16) (δ t : Int) (s : State) : (acceptMove d δ t s).held = s.held := by simp [acceptMove]
@[simp] theorem acceptMove_faults (d : BitVec 16) (δ t : Int) (s : State) : (acceptMove d δ t s).faults = s.faults := by simp [acceptMove]
@[simp] theorem acceptMove_trace (d : BitVec 16) (δ t : Int) (s : State) : (acceptMove d δ t s).trace = s.trace ++ [{ event := .dir (decide (directionOf δ = .forward)), time := s.now }] := by simp [acceptMove]
@[simp] theorem acceptMove_requests (d : BitVec 16) (δ t : Int) (s : State) : (acceptMove d δ t s).requests = s.requests := by simp [acceptMove]
@[simp] theorem acceptMove_responses (d : BitVec 16) (δ t : Int) (s : State) : (acceptMove d δ t s).responses = s.responses := by simp [acceptMove]
@[simp] theorem acceptMove_schedule (d : BitVec 16) (δ t : Int) (s : State) : (acceptMove d δ t s).schedule = s.schedule := by simp [acceptMove]
@[simp] theorem acceptMove_turns (d : BitVec 16) (δ t : Int) (s : State) : (acceptMove d δ t s).turns = s.turns := by simp [acceptMove]

/-! ## cutterMove -/

@[simp] theorem cutterMove_cfg (p m : BitVec 16) (s : State) : (cutterMove p m s).cfg = s.cfg := by unfold cutterMove; dsimp only; split <;> rfl
@[simp] theorem cutterMove_position (p m : BitVec 16) (s : State) : (cutterMove p m s).position = s.position := by unfold cutterMove; dsimp only; split <;> rfl
@[simp] theorem cutterMove_target (p m : BitVec 16) (s : State) : (cutterMove p m s).target = s.target := by unfold cutterMove; dsimp only; split <;> rfl
@[simp] theorem cutterMove_halfPeriod (p m : BitVec 16) (s : State) : (cutterMove p m s).halfPeriod = s.halfPeriod := by unfold cutterMove; dsimp only; split <;> rfl
@[simp] theorem cutterMove_pulsePhase (p m : BitVec 16) (s : State) : (cutterMove p m s).pulsePhase = s.pulsePhase := by unfold cutterMove; dsimp only; split <;> rfl
@[simp] theorem cutterMove_nextEventTime (p m : BitVec 16) (s : State) : (cutterMove p m s).nextEventTime = s.nextEventTime := by unfold cutterMove; dsimp only; split <;> rfl
@[simp] theorem cutterMove_active (p m : BitVec 16) (s : State) : (cutterMove p m s).active = s.active := by unfold cutterMove; dsimp only; split <;> rfl
@[simp] theorem cutterMove_rampStartPosition (p m : BitVec 16) (s : State) : (cutterMove p m s).rampStartPosition = s.rampStartPosition := by unfold cutterMove; dsimp only; split <;> rfl
@[simp] theorem cutterMove_rampMidpoint (p m : BitVec 16) (s : State) : (cutterMove p m s).rampMidpoint = s.rampMidpoint := by unfold cutterMove; dsimp only; split <;> rfl
@[simp] theorem cutterMove_rampPhase (p m : BitVec 16) (s : State) : (cutterMove p m s).rampPhase = s.rampPhase := by unfold cutterMove; dsimp only; split <;> rfl
@[simp] theorem cutterMove_rampIndex (p m : BitVec 16) (s : State) : (cutterMove p m s).rampIndex = s.rampIndex := by unfold cutterMove; dsimp only; split <;> rfl
@[simp] theorem cutterMove_rampIterCount (p m : BitVec 16) (s : State) : (cutterMove p m s).rampIterCount = s.rampIterCount := by unfold cutterMove; dsimp only; split <;> rfl
@[simp] theorem cutterMove_targetHalfPeriod (p m : BitVec 16) (s : State) : (cutterMove p m s).targetHalfPeriod = s.targetHalfPeriod := by unfold cutterMove; dsimp only; split <;> rfl
@[simp] theorem cutterMove_direction (p m : BitVec 16) (s : State) : (cutterMove p m s).direction = s.direction := by unfold cutterMove; dsimp only; split <;> rfl
@[simp] theorem cutterMove_slots (p m : BitVec 16) (s : State) : (cutterMove p m s).slots = s.slots := by unfold cutterMove; dsimp only; split <;> rfl
@[simp] theorem cutterMove_writeIndex (p m : BitVec 16) (s : State) : (cutterMove p m s).writeIndex = s.writeIndex := by unfold cutterMove; dsimp only; split <;> rfl
@[simp] theorem cutterMove_readIndex (p m : BitVec 16) (s : State) : (cutterMove p m s).readIndex = s.readIndex := by unfold cutterMove; dsimp only; split <;> rfl
@[simp] theorem cutterMove_currentTarget (p m : BitVec 16) (s : State) : (cutterMove p m s).currentTarget = p := by unfold cutterMove; dsimp only; split <;> rfl
@[simp] theorem cutterMove_stepOut (p m : BitVec 16) (s : State) : (cutterMove p m s).stepOut = s.stepOut := by unfold cutterMove; dsimp only; split <;> rfl
@[simp] theorem cutterMove_dirOut (p m : BitVec 16) (s : State) : (cutterMove p m s).dirOut = s.dirOut := by unfold cutterMove; dsimp only; split <;> rfl
@[simp] theorem cutterMove_enableOut (p m : BitVec 16) (s : State) : (cutterMove p m s).enableOut = s.enableOut := by unfold cutterMove; dsimp only; split <;> rfl
@[simp] theorem cutterMove_servo (p m : BitVec 16) (s : State) : (cutterMove p m s).servo = p := by unfold cutterMove; dsimp only; split <;> rfl
@[simp] theorem cutterMove_now (p m : BitVec 16) (s : State) : (cutterMove p m s).now = s.now := by unfold cutterMove; dsimp only; split <;> rfl
@[simp] theorem cutterMove_timerDeadline (p m : BitVec 16) (s : State) : (cutterMove p m s).timerDeadline = s.timerDeadline := by unfold cutterMove; dsimp only; split <;> rfl
@[simp] theorem cutterMove_irqPending (p m : BitVec 16) (s : State) : (cutterMove p m s).irqPending = s.irqPending := by unfold cutterMove; dsimp only; split <;> rfl
@[simp] theorem cutterMove_held (p m : BitVec 16) (s : State) : (cutterMove p m s).held = s.held := by unfold cutterMove; dsimp only; split <;> rfl
@[simp] theorem cutterMove_faults (p m : BitVec 16) (s : State) : (cutterMove p m s).faults = s.faults := by unfold cutterMove; dsimp only; split <;> rfl
@[simp] theorem cutterMove_trace (p m : BitVec 16) (s : State) : (cutterMove p m s).trace = s.trace ++ [{ event := .servo p, time := s.now }] := by unfold cutterMove; dsimp only; split <;> rfl
@[simp] theorem cutterMove_requests (p m : BitVec 16) (s : State) : (cutterMove p m s).requests = s.requests := by unfold cutterMove; dsimp only; split <;> rfl
@[simp] theorem cutterMove_schedule (p m : BitVec 16) (s : State) : (cutterMove p m s).schedule = s.schedule := by unfold cutterMove; dsimp only; split <;> rfl
@[simp] theorem cutterMove_turns (p m : BitVec 16) (s : State) : (cutterMove p m s).turns = s.turns := by unfold cutterMove; dsimp only; split <;> rfl

end Sys2Proof.Machine
end

