-- ==== Sys2Proof/Laws/Memory.lean ====
section
/-!
SUPPORT. The laws of the slot memory: a read after a write, and the canonical form.
-/

namespace Sys2Proof.Machine

theorem Memory.read_write_same (m : Memory) (i : Nat) (w : Word) (h : m.Pairwise (fun a b => a.1 < b.1)) :
    Memory.read (Memory.write m i w) i = w := by
  induction m with
  | nil => unfold Memory.write; split <;> simp_all [Memory.read]
  | cons c m ih =>
    obtain ⟨k, v⟩ := c
    have hk : ∀ c ∈ m, k < c.1 := (List.pairwise_cons.1 h).1
    have ih := ih (List.pairwise_cons.1 h).2
    have absent : ∀ m' : Memory, (∀ c ∈ m', i < c.1) → Memory.read m' i = Memory.unlisted := by
      intro m'
      induction m' with
      | nil => intro _; rfl
      | cons d m' ih' =>
        intro hm
        have h1 : i < d.1 := hm d (by simp)
        simp only [Memory.read]
        rw [if_neg (by omega)]
        exact ih' fun c hc => hm c (by simp [hc])
    unfold Memory.write
    split
    · split
      · next hw =>
        rw [hw]
        refine absent _ ?_
        intro c hc
        rcases List.mem_cons.1 hc with rfl | hc
        · assumption
        · have := hk c hc; omega
      · simp [Memory.read]
    · split
      · split
        · next hw =>
          rw [hw]
          exact absent _ fun c hc => by have := hk c hc; omega
        · simp [Memory.read]
      · simp only [Memory.read]
        rw [if_neg (by omega)]
        exact ih

theorem Memory.read_write_other (m : Memory) (i j : Nat) (w : Word) (hij : j ≠ i) :
    Memory.read (Memory.write m i w) j = Memory.read m j := by
  induction m with
  | nil => unfold Memory.write; split <;> simp [Memory.read, hij.symm]
  | cons c m ih =>
    obtain ⟨k, v⟩ := c
    unfold Memory.write
    split
    · split
      · rfl
      · simp [Memory.read, hij.symm]
    · split
      · next hik =>
        subst hik
        split <;> simp [Memory.read, hij.symm]
      · simp only [Memory.read, ih]

theorem Memory.mem_write (m : Memory) (i : Nat) (w : Word) (c : Nat × Word) (hc : c ∈ Memory.write m i w) :
    c ∈ m ∨ (c = (i, w) ∧ w ≠ Memory.unlisted) := by
  induction m with
  | nil =>
    unfold Memory.write at hc
    split at hc
    · cases hc
    · exact .inr ⟨by simpa using hc, ‹_›⟩
  | cons d m ih =>
    obtain ⟨k, v⟩ := d
    unfold Memory.write at hc
    split at hc
    · split at hc
      · exact .inl hc
      · rcases List.mem_cons.1 hc with rfl | hc
        · exact .inr ⟨rfl, ‹_›⟩
        · exact .inl hc
    · split at hc
      · split at hc
        · exact .inl (List.mem_cons_of_mem _ hc)
        · rcases List.mem_cons.1 hc with rfl | hc
          · exact .inr ⟨rfl, ‹_›⟩
          · exact .inl (List.mem_cons_of_mem _ hc)
      · rcases List.mem_cons.1 hc with rfl | hc
        · exact .inl (by simp)
        · rcases ih hc with h | h
          · exact .inl (List.mem_cons_of_mem _ h)
          · exact .inr h

/-- A write to a slot below `n` keeps the canonical form. -/
theorem Memory.write_wf (n : Nat) (m : Memory) (i : Nat) (w : Word) (hm : Memory.wf n m) (hi : i < n) :
    Memory.wf n (Memory.write m i w) := by
  refine ⟨?_, ?_⟩
  · have hp := hm.1
    clear hm
    induction m with
    | nil => unfold Memory.write; split <;> simp
    | cons d m ih =>
      obtain ⟨k, v⟩ := d
      have hk : ∀ c ∈ m, k < c.1 := (List.pairwise_cons.1 hp).1
      have ht := (List.pairwise_cons.1 hp).2
      unfold Memory.write
      split
      · split
        · exact hp
        · refine List.pairwise_cons.2 ⟨?_, hp⟩
          intro c hc
          rcases List.mem_cons.1 hc with rfl | hc
          · assumption
          · have := hk c hc; simp only; omega
      · split
        · next hik =>
          subst hik
          split
          · exact ht
          · exact List.pairwise_cons.2 ⟨hk, ht⟩
        · refine List.pairwise_cons.2 ⟨?_, ih ht⟩
          intro c hc
          rcases Memory.mem_write m i w c hc with h | ⟨rfl, _⟩
          · exact hk c h
          · simp only; omega
  · intro c hc
    rcases Memory.mem_write m i w c hc with h | ⟨rfl, hw⟩
    · exact hm.2 c h
    · exact ⟨hi, hw⟩

/-! ## Through the slot operations -/

theorem slotOf_lt (s : State) (i : Nat) (h : 0 < s.cfg.queueCapacity) : slotOf s i < s.cfg.queueCapacity :=
  Nat.mod_lt _ h

/-- Writing a slot gives that slot the word, leaves every other slot alone, and keeps the canonical form. -/
theorem slotWrite_spec (i : Nat) (w : Word) (s : State) (hN : 0 < s.cfg.queueCapacity)
    (hm : Memory.wf s.cfg.queueCapacity s.slots) :
    Memory.wf s.cfg.queueCapacity (slotWrite i w s).slots ∧
    slotRead (slotWrite i w s) i = w ∧
    ∀ j, slotOf s j ≠ slotOf s i → slotRead (slotWrite i w s) j = slotRead s j :=
  ⟨Memory.write_wf _ _ _ _ hm (slotOf_lt s i hN), Memory.read_write_same _ _ _ hm.1,
    fun _ hj => Memory.read_write_other _ _ _ _ hj⟩

/-- `State.reset`'s slot memory has the canonical form. -/
theorem reset_slots_wf : Memory.wf State.reset.cfg.queueCapacity State.reset.slots := by
  show Memory.wf 64 []
  exact ⟨List.Pairwise.nil, by simp⟩

end Sys2Proof.Machine
end

