-- ==== Sys2Proof/Laws/PerInstr.lean ====
section
/-!
SUPPORT. Statements made once per operation. Family EncodesLegal: a well-formed request has a word, and that word is legal
(30_encoding R304, R305, R307).
-/

namespace Sys2Proof

/-- Legality of a packed word, in terms of its parts (R307). -/
theorem legal_packWord (o : BitVec 8) (a : BitVec 16) (b : BitVec 32) :
    Legal (packWord o a b) ↔
      ∃ f, formatOf o = some f ∧ (f ≠ .M → b = 0#32) ∧ (f = .Z → a = 0#16) ∧ (f = .X → a.toNat ≤ 6) := by
  simp [Legal]

namespace Laws.EncodesLegal

/-- A well-formed request encodes to a legal word. -/
def Statement (i : Instr) : Prop :=
  i.space = .request → i.wellFormed = true → ∃ w, encode i = some w ∧ Legal w

theorem formatM (o : BitVec 8) (h : formatOf o = some .M) (a : BitVec 16) (b : BitVec 32) : Legal (packWord o a b) :=
  (legal_packWord o a b).2 ⟨.M, h, by simp, by simp, by simp⟩

theorem formatS (o : BitVec 8) (h : formatOf o = some .S) (a : BitVec 16) : Legal (packWord o a 0#32) :=
  (legal_packWord o a _).2 ⟨.S, h, by simp, by simp, by simp⟩

theorem formatZ (o : BitVec 8) (h : formatOf o = some .Z) : Legal (packWord o 0#16 0#32) :=
  (legal_packWord o _ _).2 ⟨.Z, h, by simp, by simp, by simp⟩

theorem qmove (d : BitVec 16) (n : BitVec 32) : Statement (.qmove d n) :=
  fun _ _ => ⟨_, rfl, formatM _ (by decide) d n⟩

theorem qcutup (m : BitVec 16) : Statement (.qcutup m) := fun _ _ => ⟨_, rfl, formatS _ (by decide) m⟩

theorem qcutdn (m : BitVec 16) : Statement (.qcutdn m) := fun _ _ => ⟨_, rfl, formatS _ (by decide) m⟩

theorem qcuttg (m : BitVec 16) : Statement (.qcuttg m) := fun _ _ => ⟨_, rfl, formatS _ (by decide) m⟩

theorem qfull : Statement .qfull := fun _ _ => ⟨_, rfl, formatZ _ (by decide)⟩

theorem qempty : Statement .qempty := fun _ _ => ⟨_, rfl, formatZ _ (by decide)⟩

theorem poll : Statement .poll := fun _ _ => ⟨_, rfl, formatZ _ (by decide)⟩

theorem stopall : Statement .stopall := fun _ _ => ⟨_, rfl, formatZ _ (by decide)⟩

theorem stop : Statement .stop := fun _ _ => ⟨_, rfl, formatZ _ (by decide)⟩

theorem start (d : BitVec 16) (n : BitVec 32) : Statement (.start d n) :=
  fun _ _ => ⟨_, rfl, formatM _ (by decide) d n⟩

theorem isactive : Statement .isactive := fun _ _ => ⟨_, rfl, formatZ _ (by decide)⟩

theorem moton : Statement .moton := fun _ _ => ⟨_, rfl, formatZ _ (by decide)⟩

theorem motoff : Statement .motoff := fun _ _ => ⟨_, rfl, formatZ _ (by decide)⟩

theorem mottg : Statement .mottg := fun _ _ => ⟨_, rfl, formatZ _ (by decide)⟩

theorem cutup (m : BitVec 16) : Statement (.cutup m) := fun _ _ => ⟨_, rfl, formatS _ (by decide) m⟩

theorem cutdn (m : BitVec 16) : Statement (.cutdn m) := fun _ _ => ⟨_, rfl, formatS _ (by decide) m⟩

theorem cuttg (m : BitVec 16) : Statement (.cuttg m) := fun _ _ => ⟨_, rfl, formatS _ (by decide) m⟩

theorem rdreg (k : BitVec 16) : Statement (.rdreg k) := by
  intro _ hw
  refine ⟨_, rfl, (legal_packWord _ k _).2 ⟨.X, by decide, by simp, by simp, ?_⟩⟩
  intro _
  simpa [Instr.wellFormed] using hw

theorem eMove (d : BitVec 16) (n : BitVec 32) : Statement (.eMove d n) := fun h => by cases h

theorem eCutup (m : BitVec 16) : Statement (.eCutup m) := fun h => by cases h

theorem eCutdn (m : BitVec 16) : Statement (.eCutdn m) := fun h => by cases h

theorem eCuttg (m : BitVec 16) : Statement (.eCuttg m) := fun h => by cases h

theorem timerEvent : Statement .timerEvent := fun h => by cases h

end Laws.EncodesLegal

end Sys2Proof
end

