-- ==== Sys2Proof/Laws/Spec.lean ====
section
/-!
SUPPORT. One lemma for each shared operation that says everything it can do, and the inversion of a step.
-/

namespace Sys2Proof.Machine

/-! ## CommandQueue -/

/-- `Push` is refused and changes nothing, or writes the slot at `writeIndex` and moves that index on (R501). -/
theorem push_spec (w : Word) (s : State) :
    (isFull s = true ∧ push w s = (s, .queueFull)) ∨
    (isFull s = false ∧
      push w s = ({ slotWrite s.writeIndex w s with writeIndex := nextIndex s s.writeIndex }, .ok)) := by
  unfold push
  cases h : isFull s <;> simp

/-- A queue request answers the push's result and nothing else (R510 to R513). -/
theorem pushRequest_spec (w : Word) (s : State) :
    (isFull s = true ∧ pushRequest w s = respond .queueFull 0#32 s) ∨
    (isFull s = false ∧ pushRequest w s =
      respond .ok 0#32 { slotWrite s.writeIndex w s with writeIndex := nextIndex s s.writeIndex }) := by
  rcases push_spec w s with ⟨h, e⟩ | ⟨h, e⟩ <;> simp [pushRequest, h, e]

/-- `Pop` gives nothing, or the slot at `readIndex` with that index moved on (R502). -/
theorem pop_spec (s : State) :
    (isEmpty s = true ∧ pop s = none) ∨
    (isEmpty s = false ∧
      pop s = some (slotRead s s.readIndex, { s with readIndex := nextIndex s s.readIndex })) := by
  unfold pop
  cases h : isEmpty s <;> simp

/-- The count without the modulus, for indices below N (R118). -/
theorem queueCount_eq (s : State) (hw : s.writeIndex < s.cfg.queueCapacity) (hr : s.readIndex < s.cfg.queueCapacity) :
    queueCount s =
      if s.readIndex ≤ s.writeIndex then s.writeIndex - s.readIndex
      else s.writeIndex + s.cfg.queueCapacity - s.readIndex := by
  unfold queueCount
  split
  · rw [Int.emod_eq_of_lt (by omega) (by omega)]; omega
  · rw [← Int.add_emod_right, Int.emod_eq_of_lt (by omega) (by omega)]; omega

/-- A queue that is not full has at least H free slots (R503). -/
theorem queueCount_le_of_not_full (s : State) (h : isFull s = false) :
    queueCount s + s.cfg.queueHeadroom ≤ s.cfg.queueCapacity := by
  unfold isFull queueFree at h
  simp at h
  omega

/-! ## StepPulseGenerator -/

/-- A natural number's 32-bit pattern (R17). -/
theorem u32_natCast (n : Nat) : u32 (n : Int) = BitVec.ofNat 32 n := by simp [u32]

/-- A signed 32-bit value survives its pattern (R17). -/
theorem s32_u32 (x : Int) (h1 : -(2 ^ 31) ≤ x) (h2 : x ≤ 2 ^ 31 - 1) : s32 (u32 x) = x := by
  unfold s32 u32
  rw [BitVec.toInt_ofInt]
  apply Int.bmod_eq_of_le <;> omega

/-- The direction of a displacement (R412). -/
theorem directionOf_forward (x : Int) : directionOf x = .forward ↔ 0 < x := by
  unfold directionOf; split <;> simp [*]

/-- Adding the signed distance to a tick gives the other tick (R17). -/
theorem add_u32_sdiff32 (a b : Tick) : b + u32 (sdiff32 a b) = a := by
  unfold u32 sdiff32
  rw [BitVec.ofInt_toInt, BitVec.add_comm, BitVec.sub_add_cancel]

/-- `StartBody` takes exactly one of four ways, in R707's order (R415). -/
theorem startBody_spec (d : BitVec 16) (n : BitVec 32) (s : State) :
    (s.active = true ∧ startBody d n s = (emit (.log .moveRejected) s, some (.moveRejected, 0#32))) ∨
    (s.active = false ∧ s32 n = 0 ∧ startBody d n s = (s, some (.ok, 0#32))) ∨
    (s.active = false ∧ s32 n ≠ 0 ∧ fitsS32 (s32 s.position + s32 n) = true ∧
      startBody d n s = (acceptMove d (s32 n) (s32 s.position + s32 n) s, some (.ok, 0#32))) ∨
    (s.active = false ∧ s32 n ≠ 0 ∧ fitsS32 (s32 s.position + s32 n) = false ∧
      startBody d n s = (raiseFault .positionOverflow s, none)) := by
  unfold startBody
  cases ha : s.active
  · by_cases h0 : s32 n = 0
    · simp [h0]
    · cases hf : fitsS32 (s32 s.position + s32 n) <;> simp [h0, hf]
  · simp

/-- The return of R429 keeps a deadline ahead of `now`, or restarts one tick from it. -/
theorem returnRemaining_spec (s : State) :
    (1 ≤ sdiff32 s.nextEventTime s.now ∧ returnRemaining s = (s, sdiff32 s.nextEventTime s.now)) ∨
    (sdiff32 s.nextEventTime s.now < 1 ∧ returnRemaining s = ({ s with nextEventTime := s.now + 1#32 }, 1)) := by
  unfold returnRemaining
  by_cases h : sdiff32 s.nextEventTime s.now < 1
  · exact .inr ⟨h, by simp [h]⟩
  · exact .inl ⟨by omega, by simp [h]⟩

/-- The deadline the return leaves (R429). -/
theorem returnRemaining_deadline (s : State) :
    (returnRemaining s).1.nextEventTime = nextDeadline s.nextEventTime s.now := by
  unfold nextDeadline
  rcases returnRemaining_spec s with ⟨h, e⟩ | ⟨h, e⟩ <;> rw [e] <;> unfold sdiff32 at h
  · rw [if_pos h]
  · rw [if_neg (by omega)]

/-- The timer is armed for the same deadline (R429, R430). -/
theorem returnRemaining_timer (s : State) :
    s.now + u32 (returnRemaining s).2 = nextDeadline s.nextEventTime s.now := by
  unfold nextDeadline
  rcases returnRemaining_spec s with ⟨h, e⟩ | ⟨h, e⟩ <;> rw [e] <;> unfold sdiff32 at h
  · rw [if_pos h]; exact add_u32_sdiff32 _ _
  · rw [if_neg (by omega)]; rfl

/-- A falling edge completes the move, or goes on, with the ramp advanced where it runs (R425). -/
theorem fallingEdge_spec (s : State) :
    (s.position = s.target ∧ fallingEdge s = completeMove (lowerStep s)) ∨
    (s.position ≠ s.target ∧ s.rampPhase = .none ∧
      fallingEdge s = returnRemaining (accumulateDeadline (lowerStep s))) ∨
    (s.position ≠ s.target ∧ s.rampPhase ≠ .none ∧
      fallingEdge s = returnRemaining (accumulateDeadline (rampAdvance (lowerStep s)))) := by
  unfold fallingEdge
  by_cases h : s.position = s.target
  · exact .inl ⟨h, by simp [h]⟩
  · by_cases hr : s.rampPhase = .none
    · exact .inr (.inl ⟨h, hr, by simp [h, hr]⟩)
    · exact .inr (.inr ⟨h, hr, by simp [h, hr]⟩)

/-- The handler takes exactly one of six ways (R421 to R423). -/
theorem handlerBody_spec (s : State) :
    (s.active = false ∧ handlerBody s = returnIdle s) ∨
    (s.active = true ∧ s.halfPeriod = 0#32 ∧ handlerBody s = disarm s) ∨
    (s.active = true ∧ s.halfPeriod ≠ 0#32 ∧ s.pulsePhase = true ∧ deadlinePassed s = true ∧
      handlerBody s = fallingEdge s) ∨
    (s.active = true ∧ s.halfPeriod ≠ 0#32 ∧ s.pulsePhase = false ∧ s.position ≠ s.target ∧
      handlerBody s = returnRemaining (risingEdge s)) ∨
    (s.active = true ∧ s.halfPeriod ≠ 0#32 ∧ s.pulsePhase = false ∧ s.position = s.target ∧
      handlerBody s = completeMove s) ∨
    (s.active = true ∧ s.halfPeriod ≠ 0#32 ∧ s.pulsePhase = true ∧ deadlinePassed s = false ∧
      handlerBody s = returnRemaining s) := by
  unfold handlerBody
  cases ha : s.active
  · simp
  · by_cases h0 : s.halfPeriod = 0#32
    · simp [h0]
    · cases hp : s.pulsePhase
      · by_cases hpt : s.position = s.target <;> simp [h0, hpt]
      · cases hd : deadlinePassed s <;> simp [h0]

/-- TIMER_EVENT is the handler's body between entry and return. -/
theorem execTimerEvent_eq (s : State) :
    exec .timerEvent s = .next (armTimer (handlerBody (enterInterrupt s)).2 (handlerBody (enterInterrupt s)).1) := rfl

/-! ## The ramp -/

/-- One countdown of the ramp: repeats are left, or the phase's adjustment and the reload run (R487). -/
theorem rampCountdown_spec (s : State) :
    (1 < s.rampIterCount.toNat ∧ rampCountdown s = { s with rampIterCount := s.rampIterCount - 1#16 }) ∨
    (s.rampIterCount.toNat ≤ 1 ∧ rampCountdown s = rampAdjustAndReload { s with rampIterCount := 0#16 }) := by
  have h1 : ∀ c : BitVec 16, c.toNat ≤ 1 → c = 0#16 ∨ c = 1#16 := by
    intro c hc
    have : c.toNat = 0 ∨ c.toNat = 1 := by omega
    rcases this with h | h
    · exact .inl (BitVec.eq_of_toNat_eq (by simpa using h))
    · exact .inr (BitVec.eq_of_toNat_eq (by simpa using h))
  by_cases h : s.rampIterCount.toNat ≤ 1
  · refine .inr ⟨h, ?_⟩
    rcases h1 _ h with hc | hc <;> simp [rampCountdown, oneRepeatLess, hc]
  · refine .inl ⟨by omega, ?_⟩
    have h0 : s.rampIterCount ≠ 0#16 := by intro hc; simp [hc] at h
    have h2 : s.rampIterCount - 1#16 ≠ 0#16 := by
      intro hc
      have : s.rampIterCount = 1#16 := by
        have := congrArg (· + 1#16) hc
        simpa using this
      simp [this] at h
    simp [rampCountdown, oneRepeatLess, h0, h2]

/-! ## CutterActuator -/

/-- The move primitive answers the held response at once, or settles (R550). -/
theorem cutterMove_spec (p m : BitVec 16) (s : State) :
    (m = 0#16 ∧ cutterMove p m s =
      respondWord s.held (emit (.servo p) { s with currentTarget := p, servo := p })) ∨
    (m ≠ 0#16 ∧ cutterMove p m s =
      { emit (.servo p) { s with currentTarget := p, servo := p } with
        settleRemaining := u32 (settleTicks s.cfg m), fgMode := .settling }) := by
  by_cases h : m = 0#16
  · exact .inl ⟨h, by simp [cutterMove, h]⟩
  · exact .inr ⟨h, by simp [cutterMove, h]⟩

/-! ## MotionController -/

/-- POLL takes exactly one of three ways (R601). -/
theorem execPoll_spec (s : State) :
    (s.active = true ∧ execPoll s = .next (respond .ok 1#32 s)) ∨
    (s.active = false ∧ isEmpty s = true ∧ execPoll s = .next (respond .ok (boolValue (isFull s)) s)) ∨
    (s.active = false ∧ isEmpty s = false ∧
      execPoll s = dispatchEntry (slotRead s s.readIndex)
        (holdResponse .ok (boolValue (isFull { s with readIndex := nextIndex s s.readIndex }))
          { s with readIndex := nextIndex s s.readIndex })) := by
  unfold execPoll
  rcases Bool.eq_false_or_eq_true s.active with ha | ha
  · exact .inl ⟨ha, by simp [ha]⟩
  · rcases pop_spec s with ⟨he, hp⟩ | ⟨he, hp⟩
    · exact .inr (.inl ⟨ha, he, by rw [if_neg (by simp [ha]), hp]⟩)
    · exact .inr (.inr ⟨ha, he, by rw [if_neg (by simp [ha]), hp]⟩)

/-! ## A step -/

/-- With a valid configuration and no fault, a step is the scheduled agent's action (R712). -/
theorem step_of_valid (s : State) (hv : s.cfg.Valid) (hf : s.faults = []) :
    step s = runAction (agentAction (nextAgent s) s) (advanceSchedule s) := by
  unfold step; rw [if_pos hv, hf]

/-- Everything a step that answers a next state can be, by the agent that moves: the configuration is valid, no fault is recorded,
and that agent's enabled step ran (R712). -/
theorem step_next_mover (s t : State) (h : step s = .next t) :
    s.cfg.Valid ∧ s.faults = [] ∧
    ((mover s = .fg ∧ s.fgMode = .ready ∧
        ∃ w ws, s.requests = w :: ws ∧ performRequest w (dropRequest (advanceSchedule s)) = .next t) ∨
     (mover s = .fg ∧ s.fgMode = .settling ∧ s.settleRemaining = 0#32 ∧ t = settleEnd (advanceSchedule s)) ∨
     (mover s = .isr ∧ s.irqPending = true ∧ exec .timerEvent (advanceSchedule s) = .next t) ∨
     (mover s = .tick ∧ t = tick (advanceSchedule s))) := by
  have hv : s.cfg.Valid := by
    by_contra hv
    unfold step at h
    rw [if_neg hv] at h
    cases h
  have hf : s.faults = [] := by
    unfold step at h
    rw [if_pos hv] at h
    split at h
    · cases h
    · assumption
  refine ⟨hv, hf, ?_⟩
  rw [step_of_valid s hv hf] at h
  unfold mover enabled
  cases hn : nextAgent s <;> rw [hn] at h
  · cases hm : s.fgMode
    · cases hr : s.requests with
      | nil => exact .inr (.inr (.inr ⟨by simp [hf, fgAction, hm, hr], by simpa [agentAction, fgAction, hm, hr, runAction] using h.symm⟩))
      | cons w ws =>
        exact .inl ⟨by simp [hf, fgAction, hm, hr], rfl, w, ws, rfl, by simpa [agentAction, fgAction, hm, hr, runAction] using h⟩
    · by_cases h0 : s.settleRemaining = 0#32
      · exact .inr (.inl ⟨by simp [hf, fgAction, hm, h0], rfl, h0, by simpa [agentAction, fgAction, hm, h0, runAction] using h.symm⟩)
      · exact .inr (.inr (.inr ⟨by simp [hf, fgAction, hm, h0], by simpa [agentAction, fgAction, hm, h0, runAction] using h.symm⟩))
  · cases hi : s.irqPending
    · exact .inr (.inr (.inr ⟨by simp, by simpa [agentAction, hi, runAction] using h.symm⟩))
    · exact .inr (.inr (.inl ⟨by simp [hf], rfl, by simpa [agentAction, hi, runAction] using h⟩))
  · exact .inr (.inr (.inr ⟨by simp, by simpa [agentAction, runAction] using h.symm⟩))

/-- The same with a request split into the operation its word decodes to and the illegal word (R300, R308). -/
theorem step_next_cases (s t : State) (h : step s = .next t) :
    s.cfg.Valid ∧ s.faults = [] ∧
    ((∃ w ws i, s.fgMode = .ready ∧ s.requests = w :: ws ∧ decodeRequest w = .ok i ∧
        exec i (dropRequest (advanceSchedule s)) = .next t) ∨
     (∃ w ws e, s.fgMode = .ready ∧ s.requests = w :: ws ∧ decodeRequest w = .error e ∧
        t = respond .illegalRequest 0#32 (dropRequest (advanceSchedule s))) ∨
     (s.fgMode = .settling ∧ s.settleRemaining = 0#32 ∧ t = settleEnd (advanceSchedule s)) ∨
     (s.irqPending = true ∧ exec .timerEvent (advanceSchedule s) = .next t) ∨
     t = tick (advanceSchedule s)) := by
  obtain ⟨hv, hf, ⟨-, hm, w, ws, hr, hp⟩ | ⟨-, hm, h0, ht⟩ | ⟨-, hi, he⟩ | ⟨-, ht⟩⟩ := step_next_mover s t h
  · refine ⟨hv, hf, ?_⟩
    unfold performRequest at hp
    cases hd : decodeRequest w with
    | ok i => rw [hd] at hp; exact .inl ⟨w, ws, i, hm, hr, hd, hp⟩
    | error e => rw [hd] at hp; exact .inr (.inl ⟨w, ws, e, hm, hr, hd, (Host.Outcome.next.inj hp).symm⟩)
  · exact ⟨hv, hf, .inr (.inr (.inl ⟨hm, h0, ht⟩))⟩
  · exact ⟨hv, hf, .inr (.inr (.inr (.inl ⟨hi, he⟩)))⟩
  · exact ⟨hv, hf, .inr (.inr (.inr (.inr ht)))⟩

end Sys2Proof.Machine
end

