-- ==== Sys2Proof/Tests/Slice0.lean ====
section
/-!
SUPPORT. Tests: ill-formed operations refused, decoding of words written out from the spec's encodings, one-step vectors of
95_test_vectors.md, and for every obligation with hypotheses a witness that its hypotheses can be met.
-/

namespace Sys2Proof.Tests

open Sys2Proof Sys2Proof.Machine

/-! ## Helpers -/

/-- CFG-A of 95_test_vectors.md. CFG-A leaves the ramp parameters open; they are CFG-R's here, with the ramp off. -/
def cfgA : Config where
  ticksPerMs := 10
  minHalfPeriod := 2
  idleInterval := 100
  queueCapacity := 8
  queueHeadroom := 3
  rampEnabled := false
  rampTable := [2#16, 1#16]
  rampStartHalfPeriod := 10
  cutterUpPos := 90#16
  cutterDownPos := 10#16
  motorsOnAtReset := false

/-- CFG-R of 95_test_vectors.md. -/
def cfgR : Config := { cfgA with rampEnabled := true }

/-- CFG-A right after reset with `now_reset = 0`. -/
def resetA : State := State.resetWith cfgA Draws.zero

/-- CFG-R right after reset with `now_reset = 0`. -/
def resetR : State := State.resetWith cfgR Draws.zero

/-- The next state of an outcome, if it has one. -/
def nextOf (o : Host.Outcome State Fault Refusal) : Option State :=
  match o with
  | .next t => some t
  | .fault _ => none
  | .refused _ => none

/-- The fault of an outcome, if it has one. -/
def faultOf (o : Host.Outcome State Fault Refusal) : Option Fault :=
  match o with
  | .next _ => none
  | .fault f => some f
  | .refused _ => none

/-- The refusal of an outcome, if it has one. -/
def refusalOf (o : Host.Outcome State Fault Refusal) : Option Refusal :=
  match o with
  | .next _ => none
  | .fault _ => none
  | .refused r => some r

/-- After `START 1, 3` at tick 0 on CFG-A, at tick 100 with the interrupt pending (V-T2's move, started at 0). -/
def movingA : State :=
  { resetA with
    target := 3#32, halfPeriod := 2#32, targetHalfPeriod := 2#32, active := true
    direction := .forward, dirOut := true, now := 100#32, irqPending := true }

/-- The same move at tick 102, its first pulse high and due to fall. -/
def highA : State :=
  { movingA with position := 1#32, pulsePhase := true, stepOut := true, now := 102#32
                 nextEventTime := 102#32, timerDeadline := 102#32 }

/-- The same move at tick 110, its third pulse high and due to fall. -/
def lastHighA : State :=
  { highA with position := 3#32, now := 110#32, nextEventTime := 110#32, timerDeadline := 110#32 }

/-- The move of 41_ramp R490 (`START 16, 10` on CFG-R) at tick 148: position 3, `halfPeriod` 9, one repeat left, pulse high. -/
def rampingR : State :=
  { resetR with
    position := 3#32, target := 10#32, halfPeriod := 9#32, targetHalfPeriod := 8#32, active := true
    direction := .forward, dirOut := true, rampMidpoint := 5#32, rampPhase := .accel, rampIndex := 1
    rampIterCount := 1#16, pulsePhase := true, stepOut := true, now := 148#32
    nextEventTime := 148#32, timerDeadline := 148#32, irqPending := true }

/-- CFG-A, idle, with `QMOVE 0, 1` in every used slot: six entries from slot 0. -/
def sixQueued : State :=
  { resetA with
    slots := [(0, 0x0100000000000001#64), (1, 0x0100000000000001#64), (2, 0x0100000000000001#64),
              (3, 0x0100000000000001#64), (4, 0x0100000000000001#64), (5, 0x0100000000000001#64)]
    writeIndex := 6 }

/-- CFG-A, idle, with one queued entry. -/
def oneQueued (w : Word) : State := { resetA with slots := [(0, w)], writeIndex := 1 }

/-- A state in Settling with `n` ticks left and the response `(OK, 1)` held. -/
def settlingA (n : BitVec 32) : State :=
  { resetA with fgMode := .settling, settleRemaining := n, held := 0x0000000000000001#64 }

/-! ## Well-formedness: the one operand check refuses an ill-formed term (R307) -/

theorem test_wellformed_refuses_index_7 : Instr.wellFormed (.rdreg 7#16) = false := by decide
theorem test_wellformed_refuses_index_65535 : Instr.wellFormed (.rdreg 65535#16) = false := by decide
theorem test_wellformed_takes_index_6 : Instr.wellFormed (.rdreg 6#16) = true := by decide

/-! ## Decoding: words from 30_encoding R304 to R306, R333 and 95_test_vectors 2.1

OP is the top byte, RSV the next, IMM16 the four hexadecimal digits after it, IMM32 the last eight. -/

/-- Format M, bit by bit: OP 0x22 is 00100010, RSV 00000000, IMM16 1 and IMM32 3 (V-S6's `START 1, 3`). -/
theorem test_decode_start_bits :
    decodeRequest 0b0010001000000000000000000000000100000000000000000000000000000011#64 = .ok (.start 1#16 3#32) := rfl

/-- Format S, bit by bit: OP 0x03 is 00000011, IMM16 200 is 0000000011001000 (R333's `QCUTDN 200`). -/
theorem test_decode_qcutdn_bits :
    decodeRequest 0b0000001100000000000000001100100000000000000000000000000000000000#64 = .ok (.qcutdn 200#16) := rfl

/-- Format X, bit by bit: OP 0x50 is 01010000, IMM16 6 (`RDREG NET`). -/
theorem test_decode_rdreg_bits :
    decodeRequest 0b0101000000000000000000000000011000000000000000000000000000000000#64 = .ok (.rdreg 6#16) := rfl

/-- Format Z, bit by bit: OP 0x10 is 00010000 (`POLL`). -/
theorem test_decode_poll_bits :
    decodeRequest 0b0001000000000000000000000000000000000000000000000000000000000000#64 = .ok .poll := rfl

/-- The queue requests (R304). -/
theorem test_decode_queue_requests :
    decodeRequest 0x01000064FFFFFC18#64 = .ok (.qmove 100#16 (BitVec.ofInt 32 (-1000))) ∧
    decodeRequest 0x0200000000000000#64 = .ok (.qcutup 0#16) ∧
    decodeRequest 0x0300000200000000#64 = .ok (.qcutdn 2#16) ∧
    decodeRequest 0x0400FFFF00000000#64 = .ok (.qcuttg 65535#16) ∧
    decodeRequest 0x0500000000000000#64 = .ok .qfull ∧
    decodeRequest 0x0600000000000000#64 = .ok .qempty :=
  ⟨rfl, rfl, rfl, rfl, rfl, rfl⟩

/-- The generator's, the controller's and the cutter's requests (R304). -/
theorem test_decode_immediate_requests :
    decodeRequest 0x2000000000000000#64 = .ok .stopall ∧
    decodeRequest 0x2100000000000000#64 = .ok .stop ∧
    decodeRequest 0x2200FFFF80000000#64 = .ok (.start 65535#16 (BitVec.ofInt 32 (-2147483648))) ∧
    decodeRequest 0x2300000000000000#64 = .ok .isactive ∧
    decodeRequest 0x3000000000000000#64 = .ok .moton ∧
    decodeRequest 0x3100000000000000#64 = .ok .motoff ∧
    decodeRequest 0x3200000000000000#64 = .ok .mottg ∧
    decodeRequest 0x4000000000000000#64 = .ok (.cutup 0#16) ∧
    decodeRequest 0x4100000300000000#64 = .ok (.cutdn 3#16) ∧
    decodeRequest 0x4200000300000000#64 = .ok (.cuttg 3#16) ∧
    decodeRequest 0x5000000000000000#64 = .ok (.rdreg 0#16) :=
  ⟨rfl, rfl, rfl, rfl, rfl, rfl, rfl, rfl, rfl, rfl, rfl⟩

/-- The queue entries (R310, R311) and the event (R315). -/
theorem test_decode_entries_and_event :
    decodeEntry 0x01000064FFFFFC18#64 = some (.eMove 100#16 (BitVec.ofInt 32 (-1000))) ∧
    decodeEntry 0x0200000000000000#64 = some (.eCutup 0#16) ∧
    decodeEntry 0x0300000200000000#64 = some (.eCutdn 2#16) ∧
    decodeEntry 0x0400000300000000#64 = some (.eCuttg 3#16) ∧
    decodeEntry 0x0500000000000000#64 = none ∧
    decodeEvent 0 = some .timerEvent ∧ decodeEvent 1 = none :=
  ⟨rfl, rfl, rfl, rfl, rfl, rfl, rfl⟩

/-- The illegal words of 95_test_vectors 2.1. -/
theorem test_decode_illegal :
    decodeRequest 0x0000000000000000#64 = .error .unknownOp ∧
    decodeRequest 0x0700000000000000#64 = .error .unknownOp ∧
    decodeRequest 0xFF00000000000000#64 = .error .unknownOp ∧
    decodeRequest 0x2201000100000001#64 = .error .reservedNonzero ∧
    decodeRequest 0x1000000000000001#64 = .error .imm32Nonzero ∧
    decodeRequest 0x2100000100000000#64 = .error .imm16Nonzero ∧
    decodeRequest 0x4000000000000001#64 = .error .imm32Nonzero ∧
    decodeRequest 0x5000000700000000#64 = .error .indexOutOfRange ∧
    decodeRequest 0x5000FFFF00000000#64 = .error .indexOutOfRange :=
  ⟨rfl, rfl, rfl, rfl, rfl, rfl, rfl, rfl, rfl⟩

/-- R201: least significant byte first. -/
theorem test_bytes_of_word :
    bytesOfWord 0x01000064000003E8#64 =
      [0xE8#8, 0x03#8, 0x00#8, 0x00#8, 0x64#8, 0x00#8, 0x00#8, 0x01#8] := by decide

/-! ## The assembler (R330, R331) -/

theorem test_assemble_move :
    assembleLine ['Q', 'M', 'O', 'V', 'E', ' ', '1', '0', '0', ',', ' ', '-', '1', '0', '0', '0', ' ', ';', 'x'] =
      some [0x01000064FFFFFC18#64] := by decide

theorem test_assemble_hex_and_register :
    assembleLine ['C', 'U', 'T', 'D', 'N', ' ', '0', 'x', '0', '3'] = some [0x4100000300000000#64] ∧
    assembleLine ['R', 'D', 'R', 'E', 'G', ' ', 'H', 'P'] = some [0x5000000300000000#64] := by decide

/-- `durationMs` 65536 is out of range, and `RDREG 7` has no register. -/
theorem test_assemble_errors :
    assembleLine ['S', 'T', 'A', 'R', 'T', ' ', '6', '5', '5', '3', '6', ',', '1'] = none ∧
    assembleLine ['R', 'D', 'R', 'E', 'G', ' ', '7'] = none := by decide

/-- V-Q8's pseudo-operation. -/
theorem test_assemble_qcut :
    assembleLine ['Q', 'C', 'U', 'T', ' ', '1', ',', ' ', '3', ',', ' ', '2'] =
      some [0x0100000100000003#64, 0x0300000200000000#64, 0x0200000200000000#64] := by decide

/-! ## Derived values -/

/-- V-Q0: N = 64, H = 3, indices 5 and 60: count 9, not full; indices 58 and 60: count 62, full. -/
theorem test_queue_invariant :
    queueCount { State.reset with writeIndex := 5, readIndex := 60 } = 9 ∧
    isFull { State.reset with writeIndex := 5, readIndex := 60 } = false ∧
    queueCount { State.reset with writeIndex := 58, readIndex := 60 } = 62 ∧
    isFull { State.reset with writeIndex := 58, readIndex := 60 } = true := by decide

/-- V-S1: 100 ms and 1000 steps at 5000 ticks a millisecond give 250; V-S7: 1 s and one step give 5000. -/
theorem test_half_period :
    halfPeriodFor { cfgA with ticksPerMs := 5000, minHalfPeriod := 1 } 100#16 1000 = 250 ∧
    halfPeriodFor cfgA 1000#16 1 = 5000 := by decide

/-! ## Queue requests -/

/-- V-Q3: the slot holds the request word. -/
theorem test_qmove_stores_word :
    (nextOf (exec (.qmove 100#16 1000#32) resetA)).map (fun t => (t.slots, t.writeIndex, t.responses)) =
      some ([(0, 0x01000064000003E8#64)], 1, [0x0000000000000000#64]) := by decide

/-- V-X6: N = 8, H = 3, count 6. -/
theorem test_qmove_full :
    nextOf (exec (.qmove 0#16 1#32) sixQueued) = some { sixQueued with responses := [0x0100000000000000#64] } := by decide

/-- V-Q7: the index wraps. -/
theorem test_qcutup_wraps :
    (nextOf (exec (.qcutup 0#16) { resetA with writeIndex := 7, readIndex := 7 })).map
      (fun t => (t.slots, t.writeIndex, queueCount t)) = some ([(7, 0x0200000000000000#64)], 0, 1) := by decide

theorem test_qcutdn_stores_word :
    (nextOf (exec (.qcutdn 200#16) resetA)).map (fun t => (t.slots, t.writeIndex)) =
      some ([(0, 0x030000C800000000#64)], 1) := by decide

theorem test_qcuttg_stores_word :
    (nextOf (exec (.qcuttg 3#16) (oneQueued 0x0100000100000003#64))).map (fun t => t.slots) =
      some [(0, 0x0100000100000003#64), (1, 0x0400000300000000#64)] := by decide

/-- V-Q6, and V-Q1's count 6. -/
theorem test_qfull :
    (nextOf (exec .qfull resetA)).map (fun t => t.responses) = some [0x0000000000000000#64] ∧
    (nextOf (exec .qfull sixQueued)).map (fun t => t.responses) = some [0x0000000000000001#64] := by decide

/-- V-Q5. -/
theorem test_qempty :
    (nextOf (exec .qempty resetA)).map (fun t => t.responses) = some [0x0000000000000001#64] := by decide

/-! ## START, STOP, ISACTIVE -/

/-- V-S2: clamped to MIN_HALF_PERIOD. -/
theorem test_start_clamped :
    (nextOf (exec (.start 0#16 7#32) resetA)).map
      (fun t => (t.halfPeriod, t.target, t.dirOut, t.trace)) =
      some (2#32, 7#32, true, [{ event := .dir true, time := 0#32 }]) := by decide

/-- V-R3 (`START 16, -10` at 5 on CFG-R): the ramp's start. -/
theorem test_start_ramped :
    (nextOf (exec (.start 16#16 (BitVec.ofInt 32 (-10))) { resetR with now := 5#32 })).map
      (fun t => (t.targetHalfPeriod, t.halfPeriod, t.rampMidpoint, t.rampPhase, t.rampIterCount, t.dirOut)) =
      some (8#32, 10#32, BitVec.ofInt 32 (-5), .accel, 2#16, false) := by decide

/-- V-ST1: STOP during a pulse. -/
theorem test_stop_mid_pulse :
    nextOf (exec .stop highA) = some { highA with target := 1#32, responses := [0x0000000000000000#64] } := by decide

/-- V-I1: STOP while idle. -/
theorem test_stop_idle :
    nextOf (exec .stop { resetA with target := 9#32 }) =
      some { resetA with target := 9#32, responses := [0x0000000000000000#64] } := by decide

/-- V-A2. -/
theorem test_isactive :
    (nextOf (exec .isactive movingA)).map (fun t => t.responses) = some [0x0000000000000001#64] := by decide

/-! ## TIMER_EVENT -/

/-- V-T4: `START 4, 4`, the rise due at 100 taken at 108: the deadline 105 is past, so the schedule restarts at 109. -/
theorem test_timer_late_rise :
    (nextOf (exec .timerEvent
      { movingA with target := 4#32, halfPeriod := 5#32, targetHalfPeriod := 5#32, now := 108#32 })).map
      (fun t => (t.position, t.pulsePhase, t.timerDeadline, t.trace)) =
      some (1#32, true, 109#32, [{ event := .stepRise, time := 108#32 }]) := by decide

/-- V-T2's end, for the move started at 0: the fall at 110 completes, NET = 210. -/
theorem test_timer_completes :
    (nextOf (exec .timerEvent lastHighA)).map
      (fun t => (t.active, t.stepOut, t.nextEventTime, t.trace)) =
      some (false, false, 210#32,
        [{ event := .stepFall, time := 110#32 }, { event := .complete, time := 110#32 }]) := by decide

/-- 41_ramp R490, the fall at 148: cruise is reached, the midpoint is recomputed to 7, and the low phase lasts 8. -/
theorem test_ramp_reaches_cruise :
    (nextOf (exec .timerEvent rampingR)).map
      (fun t => (t.halfPeriod, t.rampMidpoint, t.rampPhase, t.rampIndex, t.rampIterCount, t.nextEventTime)) =
      some (8#32, 7#32, .accel, 1, 1#16, 156#32) := by decide

/-! ## Cutter -/

/-- V-I2's second CUTUP: one event per call, even with no change. -/
theorem test_cutup_again :
    (nextOf (exec (.cutup 0#16) { resetA with now := 7#32 })).map (fun t => (t.servo, t.trace, t.responses)) =
      some (90#16, [{ event := .servo 90#16, time := 7#32 }], [0x0000000000000000#64]) := by decide

/-- V-C2. -/
theorem test_cutdn_settles :
    (nextOf (exec (.cutdn 3#16) { resetA with now := 50#32 })).map
      (fun t => (t.servo, t.currentTarget, t.fgMode, t.settleRemaining, t.responses)) =
      some (10#16, 10#16, .settling, 30#32, []) := by decide

/-- V-C4, and V-C5 with equal positions. -/
theorem test_cuttg :
    (nextOf (exec (.cuttg 3#16) { resetA with currentTarget := 10#16, servo := 10#16 })).map
      (fun t => (t.servo, t.fgMode)) = some (90#16, .settling) ∧
    (nextOf (exec (.cuttg 0#16) { resetA with
        cfg := { cfgA with cutterUpPos := 50#16, cutterDownPos := 50#16 }, currentTarget := 50#16 })).map
      (fun t => t.currentTarget) = some 50#16 := by decide

/-! ## Controller -/

/-- V-P4: fullness is taken after the pop. -/
theorem test_poll_fullness_after_pop :
    (nextOf (exec .poll sixQueued)).map (fun t => (queueCount t, t.active, t.responses)) =
      some (5, true, [0x0000000000000000#64]) := by decide

/-- V-P6: the overflow through the queue is a fault, with no response. -/
theorem test_poll_overflow :
    (nextOf (exec .poll { oneQueued 0x0100000100000005#64 with position := 0x7FFFFFFD#32 })).map
      (fun t => (t.faults, t.responses, t.readIndex, t.active)) = some ([.positionOverflow], [], 1, false) := by decide

/-- V-P3: the move starts, the response is POLL's. -/
theorem test_e_move :
    (nextOf (exec (.eMove 100#16 1000#32) { resetA with held := 0x0000000000000001#64 })).map
      (fun t => (t.target, t.active, t.responses)) = some (1000#32, true, [0x0000000000000001#64]) := by decide

theorem test_e_cutup :
    (nextOf (exec (.eCutup 0#16) { resetA with currentTarget := 10#16, held := 0x0000000000000001#64 })).map
      (fun t => (t.currentTarget, t.responses)) = some (90#16, [0x0000000000000001#64]) := by decide

/-- V-P7: the settle of a queued cutter entry is 20 ticks. -/
theorem test_e_cutdn :
    (nextOf (exec (.eCutdn 2#16) { resetA with now := 120#32 })).map
      (fun t => (t.trace, t.settleRemaining, t.responses)) =
      some ([{ event := .servo 10#16, time := 120#32 }], 20#32, []) := by decide

theorem test_e_cuttg :
    (nextOf (exec (.eCuttg 0#16) resetA)).map (fun t => t.currentTarget) = some 10#16 := by decide

/-- V-Q10 and V-SA1. -/
theorem test_stopall :
    (nextOf (exec .stopall { highA with writeIndex := 6, readIndex := 2 })).map
      (fun t => (t.writeIndex, t.readIndex, t.target, t.active)) = some (0, 0, 1#32, true) := by decide

/-- V-M1 and V-M2. -/
theorem test_moton :
    (nextOf (exec .moton resetA)).map (fun t => (t.enableOut, t.trace)) =
      some (true, [{ event := .enable true, time := 0#32 }]) ∧
    (nextOf (exec .moton { resetA with enableOut := true })).map (fun t => (t.enableOut, t.trace)) =
      some (true, [{ event := .enable true, time := 0#32 }]) := by decide

/-- V-M3. -/
theorem test_motoff :
    (nextOf (exec .motoff { resetA with enableOut := true })).map (fun t => (t.enableOut, t.trace)) =
      some (false, [{ event := .enable false, time := 0#32 }]) := by decide

/-- V-M4's second MOTTG. -/
theorem test_mottg :
    (nextOf (exec .mottg { resetA with enableOut := true })).map (fun t => t.enableOut) = some false := by decide

/-- V-D1 and V-D3. -/
theorem test_rdreg :
    (nextOf (exec (.rdreg 1#16) { resetA with target := BitVec.ofInt 32 (-3) })).map (fun t => t.responses) =
      some [0x00000000FFFFFFFD#64] ∧
    (nextOf (exec (.rdreg 6#16) resetA)).map (fun t => t.responses) = some [0x0000000000000064#64] := by decide

/-! ## Steps -/

/-- R142 and V-T5: reset on CFG-A with `now_reset = 2^32 − 50` has the deadline 50. -/
theorem test_reset_deadline_wraps :
    (State.resetWith cfgA { Draws.zero with now := 0xFFFFFFCE#32 }).timerDeadline = 50#32 := by decide

/-- The next step runs the placed word as the first operation after reset: `START 1, 3`. -/
theorem test_step_runs_placed_word :
    (nextOf (step (State.reset.withFetchWord 64 0x2200000100000003))).map
      (fun t => (t.target, t.active, t.requests, t.responses)) =
      some (3#32, true, [], [0x0000000000000000#64]) := by decide

/-- The next step runs the placed timer event: V-T1 at `now = 0`. -/
theorem test_step_runs_placed_event :
    (nextOf (step (State.reset.withFetchWord 8 0))).map (fun t => (t.nextEventTime, t.irqPending)) =
      some (100#32, false) := by decide

/-- V-X1: legality comes before START's rejection. -/
theorem test_step_illegal_first :
    (nextOf (step (movingA.withFetchWord 64 0x2201000500000005))).map (fun t => (t.responses, t.trace)) =
      some ([0x0300000000000000#64], []) := by decide

/-- V-X5: after a fault nothing steps. -/
theorem test_step_faulted :
    faultOf (step { resetA with faults := [.positionOverflow], schedule := [.tick] }) = some .positionOverflow := by decide

/-- R131: the tick that reaches the deadline latches the interrupt. -/
theorem test_tick_latches :
    (nextOf (step { resetA with now := 99#32, schedule := [.tick] })).map (fun t => (t.now, t.irqPending)) =
      some (100#32, true) := by decide

/-- R13: H = 9 is above N = 8. -/
theorem test_step_refuses_invalid_configuration :
    refusalOf (step { resetA with cfg := { cfgA with queueHeadroom := 9 } }) = some .invalidConfiguration := by decide

/-! ## Witnesses: for each obligation with hypotheses, a state and operands that meet them, one for each clause -/

/-- The next step runs the pending interrupt. -/
def isrNext (s : State) : State := { s with irqPending := true, schedule := [.isr] }

/-- The next step takes this request. -/
def fgNext (w : Word) (s : State) : State := { s with requests := [w], schedule := [.fg] }

/-- `fgNext` with POLL, on an idle queue whose one entry is `QMOVE 1, 5`, three steps below the top of the range (V-P6). -/
def overflowPoll : State :=
  fgNext 0x1000000000000000#64 { oneQueued 0x0100000100000005#64 with position := 0x7FFFFFFD#32 }

/-- The mirror of `rampingR`: position -3, target -10 (V-R3). -/
def rampingBackR : State :=
  { rampingR with
    position := BitVec.ofInt 32 (-3), target := BitVec.ofInt 32 (-10), direction := .reverse, dirOut := false
    rampMidpoint := BitVec.ofInt 32 (-5) }

theorem witness_DecodeOfEncodeIsIdentity :
    (Instr.rdreg 6#16).space = .request ∧ (Instr.rdreg 6#16).wellFormed = true ∧
    (Instr.eMove 65535#16 0x80000000#32).space = .queueEntry := by decide

theorem witness_DecodeAcceptsExactlyLegalWords :
    decodeRequest 0x2200000100000003#64 = .ok (.start 1#16 3#32) := rfl

/-- The first and the last byte of R333's first word, and lists of seven and nine bytes. -/
theorem witness_BytesCarryWordLittleEndian :
    wordOfBytes [0xE8#8, 0x03#8, 0x00#8, 0x00#8, 0x64#8, 0x00#8, 0x00#8, 0x01#8] = some 0x01000064000003E8#64 ∧
    (bytesOfWord 0x01000064000003E8#64)[0]? = some 0xE8#8 ∧ (bytesOfWord 0x01000064000003E8#64)[7]? = some 0x01#8 ∧
    wordOfBytes (List.replicate 7 0#8) = none ∧ wordOfBytes (List.replicate 9 0#8) = none := by decide

theorem witness_StepPerformsDecodedRequest :
    let s := fgNext 0x2300000000000000#64 movingA
    (s.cfg.Valid ∧ s.faults = [] ∧ nextAgent s = .fg ∧ s.fgMode = .ready) ∧
    s.requests = [0x2300000000000000#64] ∧ (decodeRequest 0x2300000000000000#64).toOption = some .isactive ∧
    s.schedule = [.fg] ∧ resetA.schedule = [] := by decide

theorem witness_IllegalRequestChangesNothing :
    let s := fgNext 0x5000000700000000#64 movingA
    (s.cfg.Valid ∧ s.faults = [] ∧ nextAgent s = .fg ∧ s.fgMode = .ready ∧ s.requests = [0x5000000700000000#64]) ∧
    ¬ Legal 0x5000000700000000#64 := by
  refine ⟨by decide, ?_⟩
  rintro ⟨f, hf, -, -, -, hx⟩
  have : some Format.X = some f := hf
  cases this
  exact absurd (hx rfl) (by decide)

theorem witness_StepRunsPendingInterrupt :
    (isrNext movingA).cfg.Valid ∧ (isrNext movingA).faults = [] ∧ nextAgent (isrNext movingA) = .isr ∧
    (isrNext movingA).irqPending = true ∧ { isrNext movingA with irqPending := false }.irqPending = false ∧
    nextAgent { isrNext movingA with irqPending := false } = .isr := by decide

theorem witness_SettlingTakesNoRequest :
    let s := fun n => fgNext 0x1000000000000000#64 (settlingA n)
    (s 0#32).cfg.Valid ∧ (s 0#32).faults = [] ∧ nextAgent (s 0#32) = .fg ∧ (s 0#32).fgMode = .settling ∧
    (s 0#32).settleRemaining = 0#32 ∧ (s 1#32).settleRemaining ≠ 0#32 ∧ nextAgent (s 1#32) = .fg := by decide

theorem witness_TickAdvancesTime :
    let s : State := { settlingA 1#32 with schedule := [.tick], now := 99#32 }
    s.cfg.Valid ∧ s.faults = [] ∧ nextAgent s = .tick := by decide

/-- A fault recorded; none; and N = 8 with H = 9, which breaks R13, where H = 8 is the largest it allows. -/
theorem witness_StepStopsOnlyOnFaultOrBadConfiguration :
    ({ resetA with faults := [.positionOverflow] }.cfg.Valid ∧ { resetA with faults := [.positionOverflow] }.faults ≠ []) ∧
    (resetA.cfg.Valid ∧ resetA.faults = []) ∧
    ¬ { cfgA with queueHeadroom := 9 }.Valid ∧ { cfgA with queueHeadroom := 8 }.Valid :=
  ⟨by decide, by decide, by decide⟩

theorem witness_ResetMeetsInvariant :
    cfgR.Valid ∧ Memory.wf cfgR.queueCapacity [(0, 1#64), (7, 0xFFFFFFFFFFFFFFFF#64)] := by decide

theorem rampingR_inv : (isrNext rampingR).Inv := by
  refine ⟨by decide, ⟨by decide, by decide, by decide⟩, ?_, ?_, ⟨by decide, by decide, ?_⟩, ?_, ?_, ?_, ⟨by decide, ?_⟩, ?_,
    ⟨by decide, by decide, by decide⟩, by unfold State.SlotsCanonical; decide, ?_, ?_, ?_⟩
  · unfold State.IdleQuiet; decide
  · unfold State.RampPhaseFits; decide
  · decide
  · unfold State.TimerSynced; decide
  · unfold State.TargetAhead; decide
  · unfold State.RampStartBehind; decide
  · decide
  · unfold State.CutterKnown; decide
  · intro e he; simp [unreadEntries, queueCount, isrNext, rampingR, resetR, State.resetWith] at he
  · unfold State.SettleDone; decide
  · unfold State.NoBadEntry; decide

theorem overflowPoll_inv : overflowPoll.Inv := by
  refine ⟨by decide, ⟨by decide, by decide, by decide⟩, ?_, ?_, ⟨by decide, by decide, ?_⟩, ?_, ?_, ?_, ⟨by decide, ?_⟩, ?_,
    ⟨by decide, by decide, by decide⟩, by unfold State.SlotsCanonical; decide, ?_, ?_, ?_⟩
  · unfold State.IdleQuiet; decide
  · unfold State.RampPhaseFits; decide
  · decide
  · unfold State.TimerSynced; decide
  · unfold State.TargetAhead; decide
  · unfold State.RampStartBehind; decide
  · decide
  · unfold State.CutterKnown; decide
  · intro e he
    have h1 : unreadEntries overflowPoll = [0x0100000100000005#64] := by decide
    rw [h1] at he
    have h2 : e = 0x0100000100000005#64 := by simpa using he
    subst h2
    exact ⟨⟨.M, rfl, by decide, by decide, by decide, by decide⟩, by decide⟩
  · unfold State.SettleDone; decide
  · unfold State.NoBadEntry; decide

theorem rampingBackR_inv : rampingBackR.Inv := by
  refine ⟨by decide, ⟨by decide, by decide, by decide⟩, ?_, ?_, ⟨by decide, by decide, ?_⟩, ?_, ?_, ?_, ⟨by decide, ?_⟩, ?_,
    ⟨by decide, by decide, by decide⟩, by unfold State.SlotsCanonical; decide, ?_, ?_, ?_⟩
  · unfold State.IdleQuiet; decide
  · unfold State.RampPhaseFits; decide
  · decide
  · unfold State.TimerSynced; decide
  · unfold State.TargetAhead; decide
  · unfold State.RampStartBehind; decide
  · decide
  · unfold State.CutterKnown; decide
  · intro e he; simp [unreadEntries, queueCount, rampingBackR, rampingR, resetR, State.resetWith] at he
  · unfold State.SettleDone; decide
  · unfold State.NoBadEntry; decide

/-! ### Runs -/

/-- The run that the step leads to from a state. -/
def runFrom (s : State) : Nat → State
  | 0 => s
  | n + 1 => (nextOf (step (runFrom s n))).getD s

/-- A state in which nothing waits and the axis is idle. -/
abbrev Quiet (s : State) : Prop :=
  s.cfg.Valid ∧ s.faults = [] ∧ s.requests = [] ∧ s.fgMode = .ready ∧ s.active = false ∧ s.pulsePhase = false

theorem quiet_step (s : State) (h : Quiet s) : ∃ t, step s = .next t ∧ Quiet t := by
  obtain ⟨hv, hf, hr, hm, ha, hp⟩ := h
  rw [step_of_valid s hv hf]
  have ht : Quiet (tick (advanceSchedule s)) := ⟨hv, hf, hr, hm, ha, hp⟩
  cases hn : nextAgent s
  · exact ⟨_, by simp only [agentAction, fgAction, hm, hr]; rfl, ht⟩
  · cases hi : s.irqPending
    · exact ⟨_, by simp only [agentAction, hi]; rfl, ht⟩
    · simp only [agentAction, hi, if_true, runAction, execTimerEvent_eq]
      refine ⟨_, rfl, ?_⟩
      have hb : handlerBody (enterInterrupt (advanceSchedule s)) = returnIdle (enterInterrupt (advanceSchedule s)) := by
        unfold handlerBody
        rw [if_pos (by simpa using ha)]
      rw [hb]
      exact ⟨hv, hf, hr, hm, ha, hp⟩
  · exact ⟨_, rfl, ht⟩

theorem runFrom_next (s : State) (n : Nat) (h : (nextOf (step (runFrom s n))).isSome = true) :
    step (runFrom s n) = .next (runFrom s (n + 1)) := by
  cases hs : step (runFrom s n) <;> rw [hs] at h <;> simp_all [nextOf, runFrom]

/-- What leads to a quiet state goes on for ever, and stays quiet. -/
theorem runFrom_isRun (s : State) (n : Nat) (h : ∀ k, k < n → (nextOf (step (runFrom s k))).isSome = true)
    (hq : Quiet (runFrom s n)) : IsRun (runFrom s) ∧ ∀ m, n ≤ m → Quiet (runFrom s m) := by
  have quiet : ∀ m, n ≤ m → Quiet (runFrom s m) := by
    intro m hm
    induction m, hm using Nat.le_induction with
    | base => exact hq
    | succ m hm ih =>
      obtain ⟨t, ht, hqt⟩ := quiet_step _ ih
      simpa [runFrom, ht, nextOf] using hqt
  refine ⟨fun k => runFrom_next s k ?_, quiet⟩
  by_cases hk : k < n
  · exact h k hk
  · obtain ⟨t, ht, -⟩ := quiet_step _ (quiet k (by omega))
    rw [ht]; rfl

/-- The last step of `movingA`'s move at tick 100, with a POLL waiting: a rise, the POLL, two ticks, the last fall. -/
def lastStepA : State :=
  { movingA with
    position := 2#32, nextEventTime := 100#32, timerDeadline := 100#32
    requests := [0x1000000000000000#64], schedule := [.isr, .fg, .tick, .tick, .isr] }

theorem lastStepA_inv : lastStepA.Inv := by
  refine ⟨by decide, ⟨by decide, by decide, by decide⟩, ?_, ?_, ⟨by decide, by decide, ?_⟩, ?_, ?_, ?_, ⟨by decide, ?_⟩, ?_,
    ⟨by decide, by decide, by decide⟩, by unfold State.SlotsCanonical; decide, ?_, ?_, ?_⟩
  · unfold State.IdleQuiet; decide
  · unfold State.RampPhaseFits; decide
  · decide
  · unfold State.TimerSynced; decide
  · unfold State.TargetAhead; decide
  · unfold State.RampStartBehind; decide
  · decide
  · unfold State.CutterKnown; decide
  · intro e he; simp [unreadEntries, queueCount, lastStepA, movingA, resetA, State.resetWith] at he
  · unfold State.SettleDone; decide
  · unfold State.NoBadEntry; decide

theorem lastStepA_isRun : IsRun (runFrom lastStepA) := (runFrom_isRun lastStepA 5 (by decide) (by decide)).1

/-- A settle delay at its end, with FG named next. -/
def settledA : State := { settlingA 0#32 with schedule := [.fg] }

/-- The check of `InTimeAt` that `decide` can run. -/
def inTimeCheck : List Tick → State → Bool
  | [], _ => true
  | t :: ts, s =>
    (!s.pulsePhase || decide (0 ≤ sdiff32 t s.nextEventTime)) &&
      (nextOf (exec .timerEvent { s with now := t })).all (inTimeCheck ts)

theorem inTimeAt_of_check (ts : List Tick) (s : State) (h : inTimeCheck ts s = true) : InTimeAt ts s := by
  induction ts generalizing s with
  | nil => trivial
  | cons t ts ih =>
    simp only [inTimeCheck, Bool.and_eq_true, Bool.or_eq_true, Bool.not_eq_true', decide_eq_true_eq] at h
    refine ⟨fun hp => h.1.resolve_left (by simp [hp]), fun s' hs => ih s' ?_⟩
    have h2 := h.2
    rw [hs] at h2
    exact h2

/-- A run that a pending interrupt begins, and one that a settle delay begins. -/
theorem witness_EveryRunIsWeaklyFair :
    IsRun (runFrom lastStepA) ∧ (runFrom lastStepA 0).irqPending = true ∧
    IsRun (runFrom settledA) ∧ (runFrom settledA 0).fgMode = .settling :=
  ⟨lastStepA_isRun, rfl, (runFrom_isRun settledA 1 (by decide) (by decide)).1, rfl⟩

/-- A run whose first state is moving; the handler falls due at its first and its fifth step. -/
theorem witness_EveryRunCompletesItsMovesAndEnds :
    IsRun (runFrom lastStepA) ∧ HandlerInTime (runFrom lastStepA) ∧ (runFrom lastStepA 0).Inv ∧
    (runFrom lastStepA 0).active = true := by
  obtain ⟨hr, hq⟩ := runFrom_isRun lastStepA 5 (by decide) (by decide)
  refine ⟨hr, ⟨0, fun n _ hm hp => ?_⟩, lastStepA_inv, rfl⟩
  by_cases hn : n < 5
  · have h : ∀ k, k < 5 → mover (runFrom lastStepA k) = .isr → (runFrom lastStepA k).pulsePhase = true →
        deadlinePassed (runFrom lastStepA k) = true := by decide
    exact h n hn hm hp
  · rw [(hq n (by omega)).2.2.2.2.2] at hp
    cases hp

theorem witness_StepKeepsInvariant :
    (isrNext rampingR).Inv ∧ (nextOf (step (isrNext rampingR))).isSome = true :=
  ⟨rampingR_inv, by decide⟩

/-- Both outcomes: a step with no fault, and the overflow of V-P6. -/
theorem witness_BadQueueEntryUnreachable :
    (isrNext rampingR).Inv ∧ (nextOf (step (isrNext rampingR))).map (fun t => t.faults) = some [] ∧
    overflowPoll.Inv ∧ (nextOf (step overflowPoll)).map (fun t => t.faults) = some [.positionOverflow] :=
  ⟨rampingR_inv, by decide, overflowPoll_inv, by decide⟩

theorem witness_StepKeepsTimerSyncedAndSlotsCanonical :
    (nextOf (step overflowPoll)).isSome = true ∧ overflowPoll.TimerSynced ∧ overflowPoll.SlotsCanonical :=
  ⟨by decide, by unfold State.TimerSynced; decide, by unfold State.SlotsCanonical; decide⟩

theorem witness_ConfigurationNeverWritten :
    (nextOf (step overflowPoll)).isSome = true ∧ (nextOf (exec .poll overflowPoll)).isSome = true := by decide

theorem witness_ForegroundLeavesTimerAndPosition :
    Instr.stop ≠ .timerEvent ∧ (nextOf (exec .stop highA)).isSome = true := by decide

/-- The target clause: START while idle, STOP while active; the register clause: STOP, and START while active. -/
theorem witness_ForegroundAxisWriters :
    ((nextOf (exec (.start 1#16 3#32) resetA)).map fun t => t.target) ≠ some resetA.target ∧
    ((nextOf (exec .stop highA)).map fun t => t.target) ≠ some highA.target ∧
    mayStartMove .stop = false ∧ highA.active = true ∧ (nextOf (exec (.start 1#16 3#32) highA)).isSome = true := by decide

theorem witness_ForegroundQueueAndOutputWriters :
    isQueuePush .poll = false ∧ Instr.poll ≠ .stopall ∧ Instr.qfull ≠ .poll ∧ mayMoveCutter .moton = false ∧
    writesEnable .poll = false ∧ (nextOf (exec .poll sixQueued)).isSome = true ∧
    (nextOf (exec .moton sixQueued)).isSome = true ∧ (nextOf (exec .qfull sixQueued)).isSome = true := by decide

theorem witness_HandlerWriters :
    (nextOf (exec .timerEvent rampingR)).isSome = true ∧ (nextOf (exec .timerEvent resetA)).isSome = true ∧
    resetA.active = false := by decide

theorem witness_SlotsFrame :
    isQueuePush (.qmove 1#16 3#32) = true ∧ (nextOf (exec (.qmove 1#16 3#32) (oneQueued 1#64))).isSome = true ∧
    slotOf (oneQueued 1#64) 0 ≠ slotOf (oneQueued 1#64) (oneQueued 1#64).writeIndex := by decide

theorem witness_EnableDoesNotInterfere :
    writesEnable .poll = false ∧ (nextOf (exec .poll sixQueued)).isSome = true := by decide

/-- A rise forward, a rise backward, and a step with none. -/
theorem witness_PositionCountsStepRises :
    (nextOf (step (isrNext movingA))).map (fun t => t.position) = some 1#32 ∧
    (nextOf (step (isrNext { movingA with target := BitVec.ofInt 32 (-3) }))).map (fun t => t.position) =
      some (BitVec.ofInt 32 (-1)) ∧
    (nextOf (step (isrNext highA))).map (fun t => t.position) = some 1#32 := by decide

theorem witness_EndOfRunIsStable :
    (isrNext resetA).Ended ∧ (nextOf (step (isrNext resetA))).isSome = true :=
  ⟨⟨by decide, by decide, by decide, by decide⟩, by decide⟩

/-- N = 8, H = 3: five entries leave room (free = 3), six do not (free = 2). -/
theorem witness_QueuePushStoresRequestWord : isFull { sixQueued with readIndex := 1 } = false ∧ isFull resetA = false := by decide

theorem witness_QueueFullRefusesPush : isFull sixQueued = true := by decide

theorem witness_QueuePredicatesAnswered : sixQueued.cfg.Valid := by decide

theorem witness_QueueIsFifo :
    sixQueued.cfg.Valid ∧ sixQueued.QueueBounds ∧ sixQueued.SlotsCanonical ∧
    (push 1#64 sixQueued).2 ≠ .ok ∧ (push 1#64 resetA).2 = .ok ∧ (pop sixQueued).isSome = true ∧ pop resetA = none :=
  ⟨by decide, ⟨by decide, by decide, by decide⟩, by unfold State.SlotsCanonical; decide, by decide, by decide, by decide,
    by decide⟩

/-- V-Q8 and V-Q9: three pushes into three entries fit, into four they do not. -/
theorem witness_BurstAdmittedExactlyWhenItFits :
    let burst := [Instr.qmove 1#16 3#32, .qcutdn 2#16, .qcutup 2#16]
    let s := fun r : Nat => ({ sixQueued with readIndex := r } : State)
    (s 3).cfg.Valid ∧ (s 3).QueueBounds ∧ (s 2).QueueBounds ∧ queueCount (s 3) = 3 ∧ queueCount (s 2) = 4 ∧
    burst.all isQueuePush = true :=
  ⟨by decide, ⟨by decide, by decide, by decide⟩, ⟨by decide, by decide, by decide⟩, by decide, by decide, by decide⟩

theorem witness_StartRejectedWhileActive : movingA.active = true := by decide

theorem witness_StartOfZeroStepsIsNoMove : resetA.active = false := by decide

/-- One step past either end of the range. -/
theorem witness_PositionOverflowIsAStickyFault :
    resetA.active = false ∧ resetA.faults = [] ∧ resetA.cfg.Valid ∧ s32 1#32 ≠ 0 ∧ s32 0xFFFFFFFF#32 ≠ 0 ∧
    2 ^ 31 - 1 < s32 0x7FFFFFFF#32 + s32 1#32 ∧ s32 0x80000000#32 + s32 0xFFFFFFFF#32 < -(2 ^ 31) := by decide

/-- Targets at both ends of the range. -/
theorem witness_StartWithoutRamp :
    resetA.active = false ∧ resetA.cfg.rampEnabled = false ∧ s32 0x7FFFFFFF#32 ≠ 0 ∧ s32 0x80000000#32 ≠ 0 ∧
    s32 resetA.position + s32 0x7FFFFFFF#32 ≤ 2 ^ 31 - 1 ∧ -(2 ^ 31) ≤ s32 resetA.position + s32 0x7FFFFFFF#32 ∧
    -(2 ^ 31) ≤ s32 resetA.position + s32 0x80000000#32 ∧ s32 resetA.position + s32 0x80000000#32 ≤ 2 ^ 31 - 1 := by decide

/-- V-R2 (the ramp starts slower than cruise) and V-R4 (it starts at cruise). -/
theorem witness_StartWithRamp :
    resetR.cfg.Valid ∧ resetR.active = false ∧ resetR.cfg.rampEnabled = true ∧ s32 10#32 ≠ 0 ∧ s32 5#32 ≠ 0 ∧
    -(2 ^ 31) ≤ s32 resetR.position + s32 10#32 ∧ s32 resetR.position + s32 10#32 ≤ 2 ^ 31 - 1 ∧
    -(2 ^ 31) ≤ s32 resetR.position + s32 5#32 ∧ s32 resetR.position + s32 5#32 ≤ 2 ^ 31 - 1 ∧
    halfPeriodFor cfgR 16#16 10 < cfgR.rampStartHalfPeriod ∧ cfgR.rampStartHalfPeriod ≤ halfPeriodFor cfgR 100#16 5 := by
  decide

theorem witness_HalfPeriodOfMoveBounds :
    cfgA.Valid ∧ { cfgA with ticksPerMs := 65537 }.Valid ∧ (-(2 ^ 31) : Int) ≠ 0 := by decide

/-- V-ST1, with the pending pulse's deadline reached at 102; and between pulses. -/
theorem witness_NoStepAfterStop :
    highA.active = true ∧ highA.halfPeriod ≠ 0#32 ∧ highA.pulsePhase = true ∧
    0 ≤ (102#32 - highA.nextEventTime).toInt ∧ movingA.active = true ∧ movingA.pulsePhase = false := by decide

theorem witness_HandlerIdleRearms : resetA.active = false := by decide

/-- V-T7's unreachable state. -/
theorem witness_HandlerDisarmsOnZeroHalfPeriod :
    { movingA with halfPeriod := 0#32 }.active = true ∧ { movingA with halfPeriod := 0#32 }.halfPeriod = 0#32 := by decide

theorem witness_HandlerRisingEdge :
    movingA.active = true ∧ movingA.halfPeriod ≠ 0#32 ∧ movingA.pulsePhase = false ∧ movingA.position ≠ movingA.target := by
  decide

/-- With a ramp and without, each exactly at the deadline. -/
theorem witness_HandlerFallingEdge :
    (rampingR.active = true ∧ rampingR.halfPeriod ≠ 0#32 ∧ rampingR.pulsePhase = true ∧
      0 ≤ (rampingR.now - rampingR.nextEventTime).toInt ∧ rampingR.position ≠ rampingR.target ∧
      rampingR.rampPhase ≠ .none) ∧
    (highA.active = true ∧ highA.halfPeriod ≠ 0#32 ∧ highA.pulsePhase = true ∧
      0 ≤ (highA.now - highA.nextEventTime).toInt ∧ highA.position ≠ highA.target ∧ highA.rampPhase = .none) := by decide

/-- With a pending pulse exactly at its deadline, and with none. -/
theorem witness_HandlerCompletesMove :
    (lastHighA.active = true ∧ lastHighA.halfPeriod ≠ 0#32 ∧ lastHighA.position = lastHighA.target ∧
      lastHighA.pulsePhase = true ∧ 0 ≤ (lastHighA.now - lastHighA.nextEventTime).toInt) ∧
    (let s : State := { movingA with target := 0#32 }
     s.active = true ∧ s.halfPeriod ≠ 0#32 ∧ s.position = s.target ∧ s.pulsePhase = false) := by decide

/-- One tick before the deadline. -/
theorem witness_HandlerWaitsForPendingPulse :
    let s : State := { highA with now := 101#32 }
    s.active = true ∧ s.halfPeriod ≠ 0#32 ∧ s.pulsePhase = true ∧ (s.now - s.nextEventTime).toInt < 0 := by decide

/-- Each branch: repeats left, ACCEL above cruise, DECEL below the slowest, cruise. -/
theorem witness_RampAdvanceFollowsTable :
    rampingR.rampIndex < rampingR.cfg.rampTable.length ∧
    1 < { rampingR with rampIterCount := 2#16 }.rampIterCount.toNat ∧
    (rampingR.rampPhase = .accel ∧ rampingR.targetHalfPeriod.toNat < rampingR.halfPeriod.toNat) ∧
    (let s : State := { rampingR with rampPhase := .decel, halfPeriod := 8#32 }
     s.rampPhase ≠ .accel ∧ s.halfPeriod.toNat < max s.cfg.rampStartHalfPeriod s.targetHalfPeriod.toNat) ∧
    (let s : State := { rampingR with halfPeriod := 8#32 }
     s.rampPhase = .accel ∧ ¬ s.targetHalfPeriod.toNat < s.halfPeriod.toNat) := by decide

/-- Forward and reverse. -/
theorem witness_RecomputedMidpointIsExact :
    ((isrNext rampingR).Inv ∧ rampingR.active = true ∧ rampingR.cfg.rampEnabled = true ∧ rampingR.direction = .forward) ∧
    (rampingBackR.Inv ∧ rampingBackR.active = true ∧ rampingBackR.cfg.rampEnabled = true ∧
      rampingBackR.direction = .reverse) :=
  ⟨⟨rampingR_inv, by decide, by decide, by decide⟩, ⟨rampingBackR_inv, by decide, by decide, by decide⟩⟩

theorem witness_CompletionMeansArrival :
    let s := isrNext lastHighA
    s.active = true ∧ s.halfPeriod ≠ 0#32 ∧ (nextOf (step s)).map (fun t => t.active) = some false := by decide

/-- Clause 1: three steps from the target, with the handler late at the first falling and the third rising edge.
Clause 2: the segment of `lastStepA` up to the handler's second invocation. -/
theorem witness_MoveIsExact :
    (movingA.cfg.Valid ∧ movingA.active = true ∧ movingA.pulsePhase = false ∧ movingA.halfPeriod ≠ 0#32 ∧
      movingA.targetHalfPeriod ≠ 0#32 ∧ 3 = (s32 movingA.target - s32 movingA.position).natAbs) ∧
    InTimeAt [100#32, 105#32, 106#32, 108#32, 115#32, 116#32] movingA ∧
    (∀ k, k < 5 → step (runFrom lastStepA k) = .next (runFrom lastStepA (k + 1))) ∧
    (runFrom lastStepA 0).Inv ∧ (runFrom lastStepA 0).pulsePhase = false ∧
    (∀ k, k < 5 → (runFrom lastStepA k).active = true ∧ (runFrom lastStepA k).target = (runFrom lastStepA 0).target) ∧
    (runFrom lastStepA 5).active = false :=
  ⟨by decide, inTimeAt_of_check _ _ (by decide), fun k _ => lastStepA_isRun k, lastStepA_inv, by decide, by decide,
    by decide⟩

theorem witness_UnrampedMoveEdgeTimes :
    movingA.active = true ∧ movingA.pulsePhase = false ∧ movingA.rampPhase = .none ∧ movingA.halfPeriod ≠ 0#32 ∧
    movingA.halfPeriod.toNat ≤ 2 ^ 31 - 1 ∧ 3 = (s32 movingA.target - s32 movingA.position).natAbs := by decide

theorem witness_CutterMoveSettles : (1#16 : BitVec 16) ≠ 0#16 ∧ (65535#16 : BitVec 16) ≠ 0#16 := by decide

theorem witness_SettleDelayLastsItsTicks :
    let s : State := { settlingA 2#32 with schedule := List.replicate 2 .tick ++ [.fg] }
    s.cfg.Valid ∧ s.faults = [] ∧ s.fgMode = .settling ∧ s.settleRemaining.toNat = 2 := by decide

theorem witness_PollAnswersOrDispatchesOneEntry :
    let s := oneQueued 0x0300000200000000#64
    movingA.active = true ∧ (resetA.cfg.Valid ∧ resetA.active = false ∧ resetA.writeIndex = resetA.readIndex) ∧
    s.active = false ∧ s.writeIndex ≠ s.readIndex ∧ decodeEntry (slotRead s s.readIndex) = some (.eCutdn 2#16) := by decide

theorem witness_UnknownEntryRaisesFault :
    resetA.faults = [] ∧ opField 0x0500000000000000#64 ≠ 0x01#8 ∧ opField 0x0500000000000000#64 ≠ 0x02#8 ∧
    opField 0x0500000000000000#64 ≠ 0x03#8 ∧ opField 0x0500000000000000#64 ≠ 0x04#8 := by decide

theorem witness_RdregReadsStatusRegisters : 6 < (7#16 : BitVec 16).toNat := by decide

end Sys2Proof.Tests
end

section
/-! Proofs for the scope family (00_scope): every operation completes, and with that what a step can stop on (O11). -/

namespace Sys2Proof.Machine

/-! ## Every operation answers a next state -/

/-- The dispatch of an entry of any kind, the unknown ones included (R602 to R606). -/
theorem dispatchEntry_completes (e : Word) (s : State) : ∃ t, dispatchEntry e s = .next t := by
  unfold dispatchEntry
  split <;> exact ⟨_, rfl⟩

theorem execPoll_completes (s : State) : ∃ t, execPoll s = .next t := by
  rcases execPoll_spec s with ⟨-, h⟩ | ⟨-, -, h⟩ | ⟨-, -, h⟩ <;> rw [h]
  · exact ⟨_, rfl⟩
  · exact ⟨_, rfl⟩
  · exact dispatchEntry_completes _ _

/-- An index R322 does not list is answered as an illegal request (log 18). -/
theorem execRdreg_completes (k : BitVec 16) (s : State) : ∃ t, execRdreg k s = .next t := by
  unfold execRdreg
  split <;> exact ⟨_, rfl⟩

/-- POLL and RDREG alone branch on their way to an outcome; every other meaning is a next state by its definition. -/
theorem exec_completes (i : Instr) (s : State) : ∃ t, exec i s = .next t := by
  cases i with
  | poll => exact execPoll_completes s
  | rdreg k => exact execRdreg_completes k s
  | _ => exact ⟨_, rfl⟩

/-! ## So does every agent's action, and a step stops nowhere else -/

/-- Legal or not, a request word is answered (R307, R308). -/
theorem performRequest_completes (w : Word) (s : State) : ∃ t, performRequest w s = .next t := by
  unfold performRequest
  cases decodeRequest w with
  | ok i => exact exec_completes i s
  | error _ => exact ⟨_, rfl⟩

theorem runAction_completes (a : Action) (s : State) : ∃ t, runAction a s = .next t := by
  cases a with
  | takeRequest w => exact performRequest_completes w (dropRequest s)
  | settleEnd => exact ⟨_, rfl⟩
  | isr => exact exec_completes .timerEvent s
  | tick => exact ⟨_, rfl⟩

/-- A valid configuration and no recorded fault are enough for a next state: the scheduled agent's action completes (R712). -/
theorem step_completes (s : State) (hv : s.cfg.Valid) (hf : s.faults = []) : ∃ t, step s = .next t := by
  rw [step_of_valid s hv hf]
  exact runAction_completes _ _

/-- The fault a step answers is the one recorded first (R130, R703). -/
theorem step_of_fault (s : State) (f : Fault) (fs : List Fault) (hv : s.cfg.Valid) (hf : s.faults = f :: fs) :
    step s = .fault f := by
  unfold step; rw [if_pos hv, hf]

theorem step_of_invalid (s : State) (hv : ¬ s.cfg.Valid) : step s = .refused .invalidConfiguration := by
  unfold step; rw [if_neg hv]

/-- Settles O11: one rule of `step` for each of the three cases, the middle one because every agent's action completes. -/
theorem stepStopsOnlyOnFaultOrBadConfiguration : Obligations.StepStopsOnlyOnFaultOrBadConfiguration := by
  unfold Obligations.StepStopsOnlyOnFaultOrBadConfiguration
  refine ⟨fun s hv hf => ?_, step_completes, step_of_invalid⟩
  obtain ⟨f, fs, hs⟩ := List.exists_cons_of_ne_nil hf
  exact ⟨f, by simp [hs], step_of_fault s f fs hv hs⟩

end Sys2Proof.Machine
end

section
/-! The one inversion that the state family (10_state) rests on: everything a foreground operation, the interrupt handler and a step
can do, with the guard of each way. -/

namespace Sys2Proof.Machine

/-! ## A foreground operation -/

/-- `r` is the read index after the operation's own pop: POLL takes one entry while idle and not empty, no other operation pops
(R502, R601). -/
def PopsTo (i : Instr) (s : State) (r : Nat) : Prop :=
  r = s.readIndex ∨ (i = .poll ∧ s.active = false ∧ isEmpty s = false ∧ r = nextIndex s s.readIndex)

/-- The state START's body or the cutter works on: the entry popped and the response held (R550, R601, R602). -/
def prepared (r : Nat) (h : Word) (s : State) : State := { s with readIndex := r, held := h }

/-- The queue after a push of `e` that is not refused (R501). -/
def pushed (e : Word) (s : State) : State :=
  { slotWrite s.writeIndex e s with writeIndex := nextIndex s s.writeIndex }

/-- Everything a foreground operation can do to the state. `w` is a response word, `r` and `h` are the read index and the held
response of `prepared`. -/
inductive FgEffect (i : Instr) (s : State) : State → Prop
  /-- A response and no more, START of no steps included (R414). -/
  | answer {r : Nat} (hr : PopsTo i s r) (h w : Word) : FgEffect i s (respondWord w (prepared r h s))
  /-- A push of a legal entry into a queue that is not full (R501, R510 to R513). -/
  | push (hi : isQueuePush i = true) (hf : isFull s = false) {e : Word} (he : LegalEntry e) (w : Word) :
      FgEffect i s (respondWord w (pushed e s))
  | stop (hi : i = .stop) (w : Word) : FgEffect i s (respondWord w (softStop s))
  | stopall (hi : i = .stopall) (w : Word) : FgEffect i s (respondWord w (softStop (clearQueue s)))
  | enable (hi : writesEnable i = true) (b : Bool) (w : Word) : FgEffect i s (respondWord w (setEnable b s))
  | cutter (hi : mayMoveCutter i = true) {r : Nat} (hr : PopsTo i s r) (h : Word) {p : BitVec 16}
      (hp : p = s.cfg.cutterUpPos ∨ p = s.cfg.cutterDownPos) (m : BitVec 16) :
      FgEffect i s (cutterMove p m (prepared r h s))
  /-- START while active (R413). -/
  | rejected (hi : mayStartMove i = true) (ha : s.active = true) (w : Word) :
      FgEffect i s (respondWord w (emit (.log .moveRejected) s))
  /-- START of an admissible move while idle (R415). -/
  | started (hi : mayStartMove i = true) (ha : s.active = false) {r : Nat} (hr : PopsTo i s r) (h : Word) (d : BitVec 16)
      {δ : Int} (h0 : δ ≠ 0) (hf : fitsS32 (s32 s.position + δ) = true) (w : Word) :
      FgEffect i s (respondWord w (acceptMove d δ (s32 s.position + δ) (prepared r h s)))
  /-- START of a move out of range (R415, R703). -/
  | overflow (hi : mayStartMove i = true) (ha : s.active = false) {r : Nat} (hr : PopsTo i s r) (h : Word) :
      FgEffect i s (raiseFault .positionOverflow (prepared r h s))
  /-- The dispatch of an entry of unknown kind (R606). -/
  | badEntry (hi : i = .poll) (he : isEmpty s = false) {r : Nat} (hr : PopsTo i s r) (h : Word)
      (hk : decodeEntry (slotRead s s.readIndex) = none) :
      FgEffect i s (raiseFault .badQueueEntry (prepared r h s))

/-- An operation that neither pops nor holds works on the state as it is. -/
theorem FgEffect.answer_self (i : Instr) (s : State) (w : Word) : FgEffect i s (respondWord w s) :=
  .answer (r := s.readIndex) (.inl rfl) s.held w

/-- The word of a queue request is an entry that dispatch knows (R310, R311). -/
theorem legalEntry_packWord {o : BitVec 8} {a : BitVec 16} {b : BitVec 32} (hl : Legal (packWord o a b))
    (ho : o = 0x01#8 ∨ o = 0x02#8 ∨ o = 0x03#8 ∨ o = 0x04#8) : LegalEntry (packWord o a b) := by
  refine ⟨hl, ?_⟩
  rcases ho with rfl | rfl | rfl | rfl <;> simp [decodeEntry]

theorem pushRequest_effect {i : Instr} (hi : isQueuePush i = true) {e : Word} (he : LegalEntry e) (s : State) :
    FgEffect i s (pushRequest e s) := by
  rcases pushRequest_spec e s with ⟨-, h⟩ | ⟨hf, h⟩ <;> rw [h]
  · exact .answer_self i s _
  · exact .push hi hf he _

/-- START's response, if it has one, is one word (R415). -/
theorem respondOption_eq (b : State × Option (ResultCode × BitVec 32)) :
    ∃ w, respondOption b = if b.2.isSome then respondWord w b.1 else b.1 := by
  obtain ⟨t, _ | ⟨c, v⟩⟩ := b
  · exact ⟨0#64, rfl⟩
  · exact ⟨responseWord c v, rfl⟩

/-- The four ways of START's body, with any response where it has one (R415, R602). -/
theorem startBody_effect {i : Instr} (hi : mayStartMove i = true) {s : State} {r : Nat} (hr : PopsTo i s r) (h : Word)
    (hs : s.active = true → prepared r h s = s) (d : BitVec 16) (n : BitVec 32) (w : Word) :
    let b := startBody d n (prepared r h s)
    FgEffect i s (if b.2.isSome then respondWord w b.1 else b.1) := by
  rcases startBody_spec d n (prepared r h s) with ⟨ha, e⟩ | ⟨-, -, e⟩ | ⟨ha, h0, hf, e⟩ | ⟨ha, -, -, e⟩ <;> rw [e]
  · rw [hs ha]; exact .rejected (s := s) hi ha w
  · exact .answer hr h w
  · exact .started (s := s) hi ha hr h d h0 hf w
  · exact .overflow (s := s) hi ha hr h

theorem execStart_effect (d : BitVec 16) (n : BitVec 32) {s t : State} (he : execStart d n s = .next t) :
    FgEffect (.start d n) s t := by
  obtain rfl := Host.Outcome.next.inj he
  obtain ⟨w, e⟩ := respondOption_eq (startBody d n s)
  rw [e]
  exact startBody_effect rfl (.inl rfl) s.held (fun _ => rfl) d n w

theorem execEMove_effect {i : Instr} (hi : mayStartMove i = true) {s t : State} {r : Nat} (hr : PopsTo i s r) (h : Word)
    (hs : s.active = true → prepared r h s = s) (d : BitVec 16) (n : BitVec 32)
    (he : execEMove d n (prepared r h s) = .next t) : FgEffect i s t := by
  obtain rfl := Host.Outcome.next.inj he
  exact startBody_effect hi hr h hs d n _

theorem cutterOpposite_known (s : State) : cutterOpposite s = s.cfg.cutterUpPos ∨ cutterOpposite s = s.cfg.cutterDownPos := by
  unfold cutterOpposite
  split
  · exact .inr rfl
  · exact .inl rfl

/-- The dispatch of the entry POLL has popped, by its kind (R602 to R606). -/
theorem dispatchEntry_effect {s t : State} (ha : s.active = false) (he : isEmpty s = false) {r : Nat}
    (hr : PopsTo .poll s r) (h : Word)
    (hd : dispatchEntry (slotRead s s.readIndex) (prepared r h s) = .next t) : FgEffect .poll s t := by
  unfold dispatchEntry at hd
  split at hd
  · exact execEMove_effect rfl hr h (by simp [ha]) _ _ hd
  · obtain rfl := Host.Outcome.next.inj hd
    exact .cutter rfl hr h (.inl rfl) _
  · obtain rfl := Host.Outcome.next.inj hd
    exact .cutter rfl hr h (.inr rfl) _
  · obtain rfl := Host.Outcome.next.inj hd
    exact .cutter rfl hr h (cutterOpposite_known (prepared r h s)) _
  · obtain rfl := Host.Outcome.next.inj hd
    refine .badEntry rfl he hr h ?_
    simp_all [decodeEntry]

theorem execPoll_effect {s t : State} (he : execPoll s = .next t) : FgEffect .poll s t := by
  rcases execPoll_spec s with ⟨-, e⟩ | ⟨-, -, e⟩ | ⟨ha, hne, e⟩ <;> rw [e] at he
  · obtain rfl := Host.Outcome.next.inj he
    exact .answer_self _ s _
  · obtain rfl := Host.Outcome.next.inj he
    exact .answer_self _ s _
  · exact dispatchEntry_effect ha hne (.inr ⟨rfl, ha, hne, rfl⟩) _ he

theorem execRdreg_effect (k : BitVec 16) {s t : State} (he : execRdreg k s = .next t) : FgEffect (.rdreg k) s t := by
  unfold execRdreg at he
  split at he <;> obtain rfl := Host.Outcome.next.inj he <;> exact .answer_self _ s _

/-- An immediate cutter operation holds OK and moves the cutter (R552 to R554). -/
theorem cutter_effect {i : Instr} (hi : mayMoveCutter i = true) (s : State) (h : Word) {p : BitVec 16}
    (hp : p = s.cfg.cutterUpPos ∨ p = s.cfg.cutterDownPos) (m : BitVec 16) :
    FgEffect i s (cutterMove p m (prepared s.readIndex h s)) :=
  .cutter hi (.inl rfl) h hp m

open Laws.EncodesLegal (formatM formatS) in
/-- Every operation but the timer event has one of these effects (R136, the FG column). -/
theorem exec_effect {i : Instr} {s t : State} (hi : i ≠ .timerEvent) (he : exec i s = .next t) : FgEffect i s t := by
  cases i with
  | poll => exact execPoll_effect he
  | rdreg k => exact execRdreg_effect k he
  | start d n => exact execStart_effect d n he
  | eMove d n => exact execEMove_effect rfl (.inl rfl) s.held (fun _ => rfl) d n he
  | timerEvent => exact absurd rfl hi
  | _ => ?_
  all_goals obtain rfl := Host.Outcome.next.inj he
  case qmove d n => exact pushRequest_effect rfl (legalEntry_packWord (formatM _ (by decide) d n) (by decide)) s
  case qcutup m | qcutdn m | qcuttg m =>
    exact pushRequest_effect rfl (legalEntry_packWord (formatS _ (by decide) m) (by decide)) s
  case qfull | qempty | isactive => exact .answer_self _ s _
  case stop => exact .stop rfl _
  case stopall => exact .stopall rfl _
  case moton | motoff | mottg => exact .enable rfl _ _
  case cutup m => exact cutter_effect rfl s _ (.inl rfl) m
  case cutdn m => exact cutter_effect rfl s _ (.inr rfl) m
  case cuttg m => exact cutter_effect rfl s _ (cutterOpposite_known s) m
  case eCutup m => exact cutter_effect rfl s s.held (.inl rfl) m
  case eCutdn m => exact cutter_effect rfl s s.held (.inr rfl) m
  case eCuttg m => exact cutter_effect rfl s s.held (cutterOpposite_known s) m

end Sys2Proof.Machine
end

section
/-! The interrupt handler and the step: everything either can do, with the guard of each way. -/

namespace Sys2Proof.Machine

/-! ## The interrupt handler -/

/-- The handler's return: `nextEventTime` and the armed deadline are the same tick (R140, R430). -/
def rearm (n : Tick) (s : State) : State := { s with nextEventTime := n, timerDeadline := n }

/-- The state in which a completed or disarmed move leaves the axis (R427, R428). -/
def atRest (s : State) : State := clearRamp { s with active := false, pulsePhase := false }

/-- The state after a pending pulse, if there is one, has been lowered (R425, R428). -/
def lowered (s : State) : State :=
  { s with
    stepOut := s.stepOut && !s.pulsePhase
    trace := if s.pulsePhase then s.trace ++ [{ event := .stepFall, time := s.now }] else s.trace
    pulsePhase := false }

theorem lowered_of_high {s : State} (hh : s.pulsePhase = true) : lowered s = lowerStep s := by
  simp [lowered, lowerStep, emit, hh]

theorem lowered_of_low {s : State} (hl : s.pulsePhase = false) : lowered s = s := by
  cases s
  simp_all [lowered]

/-- Everything the handler's body and return can do, from the state after interrupt entry. `n` is the tick the timer is armed for. -/
inductive HandlerEffect (s : State) : State → Prop
  /-- No move runs (R421). -/
  | idle (ha : s.active = false) (n : Tick) : HandlerEffect s (rearm n s)
  /-- A move with half-period 0 (R422, R428). -/
  | disarmed (ha : s.active = true) (h0 : s.halfPeriod = 0#32) (n : Tick) :
      HandlerEffect s (rearm n (emit .disarmed (atRest (lowered s))))
  /-- The move has arrived (R423 cases a and c, R427). -/
  | completed (ha : s.active = true) (h0 : s.halfPeriod ≠ 0#32) (hp : s.position = s.target) (n : Tick) :
      HandlerEffect s (rearm n (emit .complete (atRest (lowered s))))
  /-- The falling edge of a pulse short of the target (R425). -/
  | fell (ha : s.active = true) (h0 : s.halfPeriod ≠ 0#32) (hh : s.pulsePhase = true) (hp : s.position ≠ s.target)
      (n : Tick) : HandlerEffect s (rearm n (if s.rampPhase = .none then lowerStep s else rampAdvance (lowerStep s)))
  /-- The rising edge (R424). -/
  | rose (ha : s.active = true) (h0 : s.halfPeriod ≠ 0#32) (hl : s.pulsePhase = false) (hp : s.position ≠ s.target)
      (n : Tick) : HandlerEffect s (rearm n (risingEdge s))
  /-- A pulse is pending and its deadline reads as not passed (R423 case d). -/
  | waited (ha : s.active = true) (h0 : s.halfPeriod ≠ 0#32) (hh : s.pulsePhase = true) (hd : deadlinePassed s = false)
      (n : Tick) : HandlerEffect s (rearm n s)

/-- The return of R429 re-arms the timer for the deadline it leaves. -/
theorem armTimer_returnRemaining (s : State) :
    armTimer (returnRemaining s).2 (returnRemaining s).1 = rearm (nextDeadline s.nextEventTime s.now) s := by
  have hd := returnRemaining_deadline s
  have ht := returnRemaining_timer s
  rcases returnRemaining_spec s with ⟨-, e⟩ | ⟨-, e⟩ <;> rw [e] at hd ht ⊢ <;> simp only at hd ht <;>
    simp [armTimer, rearm, ht, ← hd]

/-- The return's deadline replaces the accumulated one, from which it was computed (R429). -/
theorem rearm_accumulateDeadline (n : Tick) (s : State) : rearm n (accumulateDeadline s) = rearm n s := rfl

theorem fallingEdge_effect {s : State} (ha : s.active = true) (h0 : s.halfPeriod ≠ 0#32) (hh : s.pulsePhase = true) :
    HandlerEffect s (armTimer (fallingEdge s).2 (fallingEdge s).1) := by
  rcases fallingEdge_spec s with ⟨hp, e⟩ | ⟨hp, hr, e⟩ | ⟨hp, hr, e⟩ <;> rw [e]
  · rw [← lowered_of_high hh]; exact .completed ha h0 hp _
  · rw [armTimer_returnRemaining, rearm_accumulateDeadline]
    simpa [hr] using HandlerEffect.fell ha h0 hh hp (nextDeadline _ _)
  · rw [armTimer_returnRemaining, rearm_accumulateDeadline]
    simpa [hr] using HandlerEffect.fell ha h0 hh hp (nextDeadline _ _)

theorem disarm_effect {s : State} (ha : s.active = true) (h0 : s.halfPeriod = 0#32) :
    HandlerEffect s (armTimer (disarm s).2 (disarm s).1) := by
  have hs : (if s.pulsePhase then lowerStep s else s) = lowered s := by
    split
    · next hh => rw [lowered_of_high hh]
    · next hl => rw [lowered_of_low (by simpa using hl)]
  unfold disarm
  rw [hs]
  exact .disarmed ha h0 _

/-- The handler has one of these effects on the state after interrupt entry (R136, the ISR column). -/
theorem handler_effect {s t : State} (he : exec .timerEvent s = .next t) : HandlerEffect (enterInterrupt s) t := by
  rw [execTimerEvent_eq] at he
  obtain rfl := Host.Outcome.next.inj he
  generalize enterInterrupt s = s
  rcases handlerBody_spec s with ⟨ha, e⟩ | ⟨ha, h0, e⟩ | ⟨ha, h0, hh, -, e⟩ | ⟨ha, h0, hl, hp, e⟩ | ⟨ha, h0, hl, hp, e⟩ |
    ⟨ha, h0, hh, hd, e⟩ <;> rw [e]
  · exact .idle ha _
  · exact disarm_effect ha h0
  · exact fallingEdge_effect ha h0 hh
  · rw [armTimer_returnRemaining]; exact .rose ha h0 hl hp _
  · have hc := HandlerEffect.completed ha h0 hp (s.now + u32 s.cfg.idleInterval)
    rwa [lowered_of_low hl] at hc
  · rw [armTimer_returnRemaining]; exact .waited ha h0 hh hd _

/-! ## A step -/

/-- Everything a step that answers a next state can be: the effect of the agent that moves, after the scheduler's choice is used
(R712). -/
theorem step_effect {s t : State} (h : step s = .next t) :
    s.cfg.Valid ∧ s.faults = [] ∧
    ((∃ i, FgEffect i (dropRequest (advanceSchedule s)) t) ∨
     (s.settleRemaining = 0#32 ∧ t = settleEnd (advanceSchedule s)) ∨
     HandlerEffect (enterInterrupt (advanceSchedule s)) t ∨
     t = tick (advanceSchedule s)) := by
  obtain ⟨hv, hf, hc⟩ := step_next_cases s t h
  refine ⟨hv, hf, ?_⟩
  rcases hc with ⟨w, -, i, -, -, hd, he⟩ | ⟨-, -, -, -, -, -, rfl⟩ | ⟨-, h0, ht⟩ | ⟨-, he⟩ | ht
  · have hi : i ≠ .timerEvent := by
      rintro rfl
      simpa [Instr.space] using decodeRequest_space w _ hd
    exact .inl ⟨i, exec_effect hi he⟩
  · exact .inl ⟨.qfull, .answer_self _ _ _⟩
  · exact .inr (.inl ⟨h0, ht⟩)
  · exact .inr (.inr (.inl (handler_effect he)))
  · exact .inr (.inr (.inr ht))

end Sys2Proof.Machine
end

section
/-! The writer table (R136) and the other rules that say what an operation, the handler or a step leaves alone (O18 to O24). -/

namespace Sys2Proof.Machine

/-! ## Completion -/

/-- Settles O20, by the scope family's lemma for each operation. -/
theorem everyOperationCompletes : Obligations.EveryOperationCompletes := by
  unfold Obligations.EveryOperationCompletes
  exact exec_completes

/-! ## The foreground's column of R136 -/

/-- Only POLL pops (R502, R601). -/
theorem PopsTo.unchanged {i : Instr} {s : State} {r : Nat} (hr : PopsTo i s r) (hi : i ≠ .poll) : r = s.readIndex :=
  hr.resolve_right fun h => hi h.1

theorem FgEffect.timer_position {i : Instr} {s t : State} (he : FgEffect i s t) :
    t.position = s.position ∧ t.stepOut = s.stepOut ∧ t.nextEventTime = s.nextEventTime ∧
    t.timerDeadline = s.timerDeadline ∧ t.now = s.now ∧ t.irqPending = s.irqPending := by
  cases he <;> simp [prepared, pushed]

/-- Settles O21: no effect of a foreground operation writes them. -/
theorem foregroundLeavesTimerAndPosition : Obligations.ForegroundLeavesTimerAndPosition := by
  unfold Obligations.ForegroundLeavesTimerAndPosition
  intro i s t hi he
  exact (exec_effect hi he).timer_position

/-- `target` is written by an accepted START while idle, and by the soft stop while active (R206, R417, R607). -/
theorem FgEffect.target {i : Instr} {s t : State} (he : FgEffect i s t) (ht : t.target ≠ s.target) :
    (mayStartMove i = true ∧ s.active = false) ∨ ((i = .stop ∨ i = .stopall) ∧ s.active = true) := by
  cases he with
  | started hi ha => exact .inl ⟨hi, ha⟩
  | stop hi w =>
    refine .inr ⟨.inl hi, ?_⟩
    by_contra ha
    simp [ha] at ht
  | stopall hi w =>
    refine .inr ⟨.inr hi, ?_⟩
    by_contra ha
    simp [ha] at ht
  | _ => simp [prepared, pushed] at ht

/-- Every other axis and ramp register is written by an accepted START alone, which needs an idle axis (R206, R415). -/
theorem FgEffect.axis {i : Instr} {s t : State} (he : FgEffect i s t) (h : mayStartMove i = false ∨ s.active = true) :
    t.halfPeriod = s.halfPeriod ∧ t.targetHalfPeriod = s.targetHalfPeriod ∧
    t.rampStartPosition = s.rampStartPosition ∧ t.rampMidpoint = s.rampMidpoint ∧ t.rampPhase = s.rampPhase ∧
    t.rampIndex = s.rampIndex ∧ t.rampIterCount = s.rampIterCount ∧ t.direction = s.direction ∧
    t.dirOut = s.dirOut ∧ t.pulsePhase = s.pulsePhase ∧ t.active = s.active := by
  cases he with
  | started hi ha => simp [hi, ha] at h
  | _ => simp [prepared, pushed]

/-- Settles O22, from the writers of `target` and of the other registers. -/
theorem foregroundAxisWriters : Obligations.ForegroundAxisWriters := by
  unfold Obligations.ForegroundAxisWriters
  intro i s t hi he
  have ef := exec_effect hi he
  refine ⟨ef.target, ef.axis, fun ha => ?_⟩
  obtain ⟨-, -, -, -, -, -, -, -, -, -, hact⟩ := ef.axis (.inr ha)
  rw [hact, ha]

theorem FgEffect.slots {i : Instr} {s t : State} (he : FgEffect i s t) (hi : isQueuePush i = false) :
    t.slots = s.slots := by
  cases he with
  | push hq => simp [hi] at hq
  | _ => simp [prepared]

theorem FgEffect.writeIndex {i : Instr} {s t : State} (he : FgEffect i s t) (hi : isQueuePush i = false)
    (hs : i ≠ .stopall) : t.writeIndex = s.writeIndex := by
  cases he with
  | push hq => simp [hi] at hq
  | stopall hi => exact absurd hi hs
  | _ => simp [prepared]

theorem FgEffect.readIndex {i : Instr} {s t : State} (he : FgEffect i s t) (hi : i ≠ .poll) (hs : i ≠ .stopall) :
    t.readIndex = s.readIndex := by
  cases he with
  | answer hr => simp [prepared, hr.unchanged hi]
  | cutter _ hr => simp [prepared, hr.unchanged hi]
  | started _ _ hr => simp [prepared, hr.unchanged hi]
  | overflow _ _ hr => simp [prepared, hr.unchanged hi]
  | badEntry _ _ hr => simp [prepared, hr.unchanged hi]
  | stopall hi => exact absurd hi hs
  | _ => simp [pushed]

theorem FgEffect.cutter_mode {i : Instr} {s t : State} (he : FgEffect i s t) (hi : mayMoveCutter i = false) :
    t.currentTarget = s.currentTarget ∧ t.servo = s.servo ∧ t.fgMode = s.fgMode ∧
    t.settleRemaining = s.settleRemaining := by
  cases he with
  | cutter hc => simp [hi] at hc
  | _ => simp [prepared, pushed]

theorem FgEffect.enableOut {i : Instr} {s t : State} (he : FgEffect i s t) (hi : writesEnable i = false) :
    t.enableOut = s.enableOut := by
  cases he with
  | enable hw => simp [hi] at hw
  | _ => simp [prepared, pushed]

/-- Settles O23, from the writers of the queue, of the cutter with FG's mode, and of ENABLE. -/
theorem foregroundQueueAndOutputWriters : Obligations.ForegroundQueueAndOutputWriters := by
  unfold Obligations.ForegroundQueueAndOutputWriters
  intro i s t hi he
  have ef := exec_effect hi he
  exact ⟨ef.slots, ef.writeIndex, ef.readIndex, ef.cutter_mode, ef.enableOut⟩

/-! ## The handler's column of R136 -/

/-- In every case, a running move included, the handler leaves what FG alone writes (R136, R431, R705). -/
theorem HandlerEffect.frame {s t : State} (he : HandlerEffect s t) :
    (t.target = s.target ∧ t.targetHalfPeriod = s.targetHalfPeriod ∧ t.rampStartPosition = s.rampStartPosition ∧
      t.direction = s.direction ∧ t.dirOut = s.dirOut) ∧
    (t.slots = s.slots ∧ t.writeIndex = s.writeIndex ∧ t.readIndex = s.readIndex) ∧
    (t.currentTarget = s.currentTarget ∧ t.servo = s.servo ∧ t.enableOut = s.enableOut ∧ t.fgMode = s.fgMode ∧
      t.settleRemaining = s.settleRemaining ∧ t.held = s.held) ∧
    (t.faults = s.faults ∧ t.responses = s.responses ∧ t.requests = s.requests ∧ t.now = s.now) := by
  cases he with
  | fell => by_cases hr : s.rampPhase = .none <;> simp [rearm, hr]
  | _ => simp [rearm, atRest, lowered]

/-- Without a move the handler re-arms the timer and does no more (R421). -/
theorem HandlerEffect.eq_rearm {s t : State} (he : HandlerEffect s t) (hi : s.active = false) : ∃ n, t = rearm n s := by
  cases he with
  | idle _ n => exact ⟨n, rfl⟩
  | _ ha => simp [hi] at ha

/-- Settles O24: the frame of every effect of the handler, and the one effect it has while idle. -/
theorem handlerWriters : Obligations.HandlerWriters := by
  unfold Obligations.HandlerWriters
  intro s t he
  have ef := handler_effect he
  obtain ⟨haxis, hqueue, hcutter, hrest⟩ := ef.frame
  refine ⟨haxis, hqueue, hcutter, hrest, fun ha => ?_⟩
  obtain ⟨n, rfl⟩ := ef.eq_rearm ha
  simp [rearm, ha]

/-! ## The configuration -/

theorem FgEffect.cfg {i : Instr} {s t : State} (he : FgEffect i s t) : t.cfg = s.cfg := by
  cases he <;> simp [prepared, pushed]

theorem HandlerEffect.cfg {s t : State} (he : HandlerEffect s t) : t.cfg = s.cfg := by
  cases he with
  | fell => by_cases hr : s.rampPhase = .none <;> simp [rearm, hr]
  | _ => rfl

theorem exec_cfg {i : Instr} {s t : State} (he : exec i s = .next t) : t.cfg = s.cfg := by
  by_cases hi : i = .timerEvent
  · subst hi; exact (handler_effect he).cfg
  · exact (exec_effect hi he).cfg

theorem step_cfg {s t : State} (h : step s = .next t) : t.cfg = s.cfg := by
  obtain ⟨-, -, ⟨i, he⟩ | ⟨-, rfl⟩ | he | rfl⟩ := step_effect h
  · exact he.cfg
  · rfl
  · exact he.cfg
  · rfl

/-- Settles O19, by the effects of the operations and of a step. -/
theorem configurationNeverWritten : Obligations.ConfigurationNeverWritten := by
  unfold Obligations.ConfigurationNeverWritten
  exact ⟨fun _ _ => step_cfg, fun _ _ _ => exec_cfg⟩

/-! ## The timer and the slots -/

/-- The handler's return leaves the timer in step with `nextEventTime`, whatever it found (R140, R430). -/
theorem HandlerEffect.timerSynced {s t : State} (he : HandlerEffect s t) : t.TimerSynced := by
  cases he <;> rfl

theorem FgEffect.slotsCanonical {i : Instr} {s t : State} (he : FgEffect i s t) (hN : 0 < s.cfg.queueCapacity)
    (hs : s.SlotsCanonical) : t.SlotsCanonical := by
  unfold State.SlotsCanonical at hs ⊢
  rw [he.cfg]
  cases he with
  | push _ _ _ w => exact (slotWrite_spec s.writeIndex _ s hN hs).1
  | _ => simpa [prepared] using hs

/-- Settles O18: the timer is written by the handler alone, and the slots by a push alone. -/
theorem stepKeepsTimerSyncedAndSlotsCanonical : Obligations.StepKeepsTimerSyncedAndSlotsCanonical := by
  unfold Obligations.StepKeepsTimerSyncedAndSlotsCanonical
  intro s t h
  obtain ⟨hv, -, ⟨i, he⟩ | ⟨-, rfl⟩ | he | rfl⟩ := step_effect h
  · obtain ⟨-, -, hn, hd, -, -⟩ := he.timer_position
    have hN : 0 < s.cfg.queueCapacity := by
      obtain ⟨-, -, -, ⟨hN, -⟩, -⟩ := hv
      omega
    exact ⟨fun ht => by unfold State.TimerSynced; rw [hn, hd]; exact ht, he.slotsCanonical hN⟩
  · exact ⟨id, id⟩
  · obtain ⟨-, ⟨hslots, -, -⟩, -, -⟩ := he.frame
    refine ⟨fun _ => he.timerSynced, fun hs => ?_⟩
    unfold State.SlotsCanonical
    rw [he.cfg, hslots]
    exact hs
  · exact ⟨id, id⟩

end Sys2Proof.Machine
end

section
/-! Counting pulses and ending moves (O27, O50), ENABLE's independence (O26), the TICK step and reset's table (O10, O14). -/

namespace Sys2Proof.Machine

/-! ## Pulses and arrivals -/

@[simp] theorem countEvent_nil (e : Event) : countEvent e [] = 0 := rfl

@[simp] theorem countEvent_cons (e : Event) (x : Stamped) (tr : List Stamped) :
    countEvent e (x :: tr) = countEvent e tr + if x.event = e then 1 else 0 := by
  simp [countEvent, List.countP_cons]

@[simp] theorem countEvent_append (e : Event) (tr tr' : List Stamped) :
    countEvent e (tr ++ tr') = countEvent e tr + countEvent e tr' := List.countP_append

theorem s32_lower (p : BitVec 32) : -(2 ^ 31) ≤ s32 p := BitVec.le_toInt p

theorem s32_upper (p : BitVec 32) : s32 p ≤ 2 ^ 31 - 1 := Int.le_sub_one_of_lt BitVec.toInt_lt

theorem s32_add_one {p : BitVec 32} (h : s32 p < 2 ^ 31 - 1) : s32 (p + 1#32) = s32 p + 1 := by
  have hl := s32_lower p
  unfold s32 at *
  rw [BitVec.toInt_add, show (1#32).toInt = 1 from by decide]
  exact Int.bmod_eq_of_le (by omega) (by omega)

theorem s32_sub_one {p : BitVec 32} (h : -(2 ^ 31) < s32 p) : s32 (p - 1#32) = s32 p - 1 := by
  have hu := s32_upper p
  unfold s32 at *
  rw [BitVec.toInt_sub, show (1#32).toInt = 1 from by decide]
  exact Int.bmod_eq_of_le (by omega) (by omega)

/-- One microstep toward the target, exact in either direction, since a register short of the target is not at that end of its
range (R424). -/
theorem s32_stepToward {p q : BitVec 32} (h : p ≠ q) :
    (s32 p < s32 q ∧ s32 (stepToward p q) = s32 p + 1) ∨ (s32 q < s32 p ∧ s32 (stepToward p q) = s32 p - 1) := by
  have hne : s32 p ≠ s32 q := fun e => h (BitVec.eq_of_toInt_eq e)
  unfold stepToward
  by_cases hlt : s32 p < s32 q
  · rw [if_pos hlt]
    exact .inl ⟨hlt, s32_add_one (lt_of_lt_of_le hlt (s32_upper q))⟩
  · have hgt : s32 q < s32 p := by omega
    rw [if_neg hlt]
    exact .inr ⟨hgt, s32_sub_one (lt_of_le_of_lt (s32_lower q) hgt)⟩

/-- No foreground operation emits a StepRise. -/
theorem FgEffect.stepRises {i : Instr} {s t : State} (he : FgEffect i s t) :
    countEvent .stepRise t.trace = countEvent .stepRise s.trace := by
  cases he <;> simp [prepared, pushed]

/-- The handler emits one StepRise exactly where it moves `position` (R424). -/
theorem HandlerEffect.stepRises {s t : State} (he : HandlerEffect s t) :
    (t.position = s.position ∧ countEvent .stepRise t.trace = countEvent .stepRise s.trace) ∨
    (s.position ≠ s.target ∧ t.position = stepToward s.position s.target ∧
      countEvent .stepRise t.trace = countEvent .stepRise s.trace + 1) := by
  cases he with
  | rose _ _ _ hp => exact .inr ⟨hp, by simp [rearm], by simp [rearm]⟩
  | fell => by_cases hr : s.rampPhase = .none <;> simp [rearm, hr]
  | disarmed => cases hh : s.pulsePhase <;> simp [rearm, atRest, lowered, hh]
  | completed => cases hh : s.pulsePhase <;> simp [rearm, atRest, lowered, hh]
  | _ => simp [rearm]

/-- Settles O27: only the handler's rising edge moves `position`, by one exact microstep. -/
theorem positionCountsStepRises : Obligations.PositionCountsStepRises := by
  unfold Obligations.PositionCountsStepRises
  intro s t h
  obtain ⟨-, -, ⟨i, he⟩ | ⟨-, rfl⟩ | he | rfl⟩ := step_effect h
  · exact .inl ⟨he.timer_position.1, he.stepRises⟩
  · exact .inl ⟨rfl, rfl⟩
  · rcases he.stepRises with hn | ⟨hp, hpos, hc⟩
    · exact .inl hn
    · rw [hpos]
      exact .inr ⟨hc, s32_stepToward hp⟩
  · exact .inl ⟨rfl, rfl⟩

/-- A handler that ends a move with a half-period finds it at its target, and emits Complete last (R427). -/
theorem HandlerEffect.arrival {s t : State} (he : HandlerEffect s t) (hs : s.active = true) (ht : t.active = false)
    (h0 : s.halfPeriod ≠ 0#32) :
    t.position = t.target ∧ t.target = s.target ∧ t.position = s.position ∧
    t.trace.getLast? = some { event := .complete, time := s.now } := by
  cases he with
  | completed _ _ hp => simp [rearm, atRest, lowered, hp]
  | disarmed _ h => exact absurd h h0
  | idle ha => simp [hs] at ha
  | fell => by_cases hr : s.rampPhase = .none <;> simp [rearm, hr, hs] at ht
  | _ => simp [rearm, hs] at ht

/-- Settles O50: FG never lowers `active`, nor do time and SettleEnd; the handler does on arrival. -/
theorem completionMeansArrival : Obligations.CompletionMeansArrival := by
  unfold Obligations.CompletionMeansArrival
  intro s t h hs ht h0
  obtain ⟨-, -, ⟨i, he⟩ | ⟨-, rfl⟩ | he | rfl⟩ := step_effect h
  · obtain ⟨-, -, -, -, -, -, -, -, -, -, hact⟩ := he.axis (.inr hs)
    simp [ht, hs] at hact
  · simp [hs] at ht
  · exact he.arrival hs ht h0
  · simp [hs] at ht

/-! ## ENABLE -/

/-- The same state with another value of ENABLE. -/
def withEnable (b : Bool) (s : State) : State := { s with enableOut := b }

/-- The same for a body that answers more than a state. -/
def withEnableFst {α : Type} (b : Bool) (r : State × α) : State × α := (withEnable b r.1, r.2)

/-! No named operation but the writers of ENABLE reads it: each commutes with setting it. -/

section
variable (b : Bool) (s : State)

theorem pushRequest_withEnable (e : Word) : pushRequest e (withEnable b s) = withEnable b (pushRequest e s) := by
  have hf : isFull (withEnable b s) = isFull s := rfl
  unfold pushRequest push
  rw [hf]
  cases isFull s <;> rfl

theorem softStop_withEnable : softStop (withEnable b s) = withEnable b (softStop s) := by
  unfold softStop; rw [apply_ite (withEnable b)]; rfl

theorem raiseFault_withEnable (f : Fault) : raiseFault f (withEnable b s) = withEnable b (raiseFault f s) := by
  unfold raiseFault; rw [apply_ite (withEnable b)]; rfl

theorem cutterMove_withEnable (p m : BitVec 16) : cutterMove p m (withEnable b s) = withEnable b (cutterMove p m s) := by
  unfold cutterMove; dsimp only; rw [apply_ite (withEnable b)]; rfl

theorem setSpeed_withEnable (δ : Int) (hp : BitVec 32) :
    setSpeed δ hp (withEnable b s) = withEnable b (setSpeed δ hp s) := by
  unfold setSpeed; dsimp only; rw [apply_ite (withEnable b)]; rfl

theorem acceptMove_withEnable (d : BitVec 16) (δ u : Int) :
    acceptMove d δ u (withEnable b s) = withEnable b (acceptMove d δ u s) := by
  have hs := setSpeed_withEnable b (setDirection (directionOf δ) { s with target := u32 u }) δ
    (u32 (halfPeriodFor s.cfg d δ))
  exact congrArg (fun x => { x with pulsePhase := false, active := true }) hs

theorem startBody_withEnable (d : BitVec 16) (n : BitVec 32) :
    startBody d n (withEnable b s) = withEnableFst b (startBody d n s) := by
  unfold startBody
  dsimp only
  rw [acceptMove_withEnable, raiseFault_withEnable]
  simp only [apply_ite (withEnableFst b)]
  rfl

theorem respondOption_withEnable (r : State × Option (ResultCode × BitVec 32)) :
    respondOption (withEnableFst b r) = withEnable b (respondOption r) := by
  obtain ⟨t, _ | ⟨c, v⟩⟩ := r <;> rfl

/-! The interrupt handler. -/

theorem rampTransition_withEnable : rampTransition (withEnable b s) = withEnable b (rampTransition s) := by
  unfold rampTransition; rw [apply_ite (withEnable b)]; rfl

theorem rampAccelAdjust_withEnable : rampAccelAdjust (withEnable b s) = withEnable b (rampAccelAdjust s) := by
  unfold rampAccelAdjust; rw [apply_ite (withEnable b)]; rfl

theorem rampDecelAdjust_withEnable : rampDecelAdjust (withEnable b s) = withEnable b (rampDecelAdjust s) := by
  unfold rampDecelAdjust; rw [apply_ite (withEnable b)]; rfl

theorem rampAdjustAndReload_withEnable :
    rampAdjustAndReload (withEnable b s) = withEnable b (rampAdjustAndReload s) := by
  have hs : (if (withEnable b s).rampPhase = .accel then rampAccelAdjust (withEnable b s)
      else rampDecelAdjust (withEnable b s)) =
      withEnable b (if s.rampPhase = .accel then rampAccelAdjust s else rampDecelAdjust s) := by
    rw [rampAccelAdjust_withEnable, rampDecelAdjust_withEnable, apply_ite (withEnable b)]; rfl
  unfold rampAdjustAndReload
  rw [hs]
  rfl

theorem rampAdvance_withEnable : rampAdvance (withEnable b s) = withEnable b (rampAdvance s) := by
  unfold rampAdvance
  rw [rampTransition_withEnable]
  generalize rampTransition s = s
  have hr := rampAdjustAndReload_withEnable b { s with rampIterCount := oneRepeatLess s.rampIterCount }
  unfold rampCountdown
  dsimp only
  rw [apply_ite (withEnable b), ← hr]
  rfl

theorem returnRemaining_withEnable : returnRemaining (withEnable b s) = withEnableFst b (returnRemaining s) := by
  unfold returnRemaining; dsimp only; rw [apply_ite (withEnableFst b)]; rfl

theorem disarm_withEnable : disarm (withEnable b s) = withEnableFst b (disarm s) := by
  have hs : (if (withEnable b s).pulsePhase then lowerStep (withEnable b s) else withEnable b s) =
      withEnable b (if s.pulsePhase then lowerStep s else s) := by
    rw [apply_ite (withEnable b)]; rfl
  unfold disarm
  rw [hs]
  rfl

theorem fallingEdge_withEnable : fallingEdge (withEnable b s) = withEnableFst b (fallingEdge s) := by
  have hl : lowerStep (withEnable b s) = withEnable b (lowerStep s) := rfl
  have hs (u : State) : (if (withEnable b u).rampPhase = .none then withEnable b u else rampAdvance (withEnable b u)) =
      withEnable b (if u.rampPhase = .none then u else rampAdvance u) := by
    rw [rampAdvance_withEnable, apply_ite (withEnable b)]; rfl
  unfold fallingEdge
  dsimp only
  rw [hl, hs, apply_ite (withEnableFst b), ← returnRemaining_withEnable]
  rfl

theorem handlerBody_withEnable : handlerBody (withEnable b s) = withEnableFst b (handlerBody s) := by
  have hr : risingEdge (withEnable b s) = withEnable b (risingEdge s) := rfl
  unfold handlerBody
  rw [disarm_withEnable, fallingEdge_withEnable, hr, returnRemaining_withEnable, returnRemaining_withEnable]
  simp only [apply_ite (withEnableFst b)]
  rfl

end

/-! Every operation that does not write ENABLE answers the same but for ENABLE. -/

theorem execEMove_withEnable (d : BitVec 16) (n : BitVec 32) {b : Bool} {s t : State} (he : execEMove d n s = .next t) :
    execEMove d n (withEnable b s) = .next (withEnable b t) := by
  obtain rfl := Host.Outcome.next.inj he
  unfold execEMove
  dsimp only
  rw [startBody_withEnable, apply_ite (withEnable b)]
  rfl

theorem dispatchEntry_withEnable (e : Word) {b : Bool} {s t : State} (he : dispatchEntry e s = .next t) :
    dispatchEntry e (withEnable b s) = .next (withEnable b t) := by
  unfold dispatchEntry at he ⊢
  split at he
  · exact execEMove_withEnable _ _ he
  · obtain rfl := Host.Outcome.next.inj he
    exact congrArg Host.Outcome.next (cutterMove_withEnable b s _ _)
  · obtain rfl := Host.Outcome.next.inj he
    exact congrArg Host.Outcome.next (cutterMove_withEnable b s _ _)
  · obtain rfl := Host.Outcome.next.inj he
    exact congrArg Host.Outcome.next (cutterMove_withEnable b s _ _)
  · obtain rfl := Host.Outcome.next.inj he
    exact congrArg Host.Outcome.next (raiseFault_withEnable b s _)

theorem pop_withEnable (b : Bool) (s : State) :
    pop (withEnable b s) = (pop s).map fun q => (q.1, withEnable b q.2) := by
  have hm : isEmpty (withEnable b s) = isEmpty s := rfl
  unfold pop
  rw [hm]
  cases isEmpty s <;> rfl

theorem execPoll_withEnable {b : Bool} {s t : State} (he : execPoll s = .next t) :
    execPoll (withEnable b s) = .next (withEnable b t) := by
  have ha : (withEnable b s).active = s.active := rfl
  have hf (u : State) : isFull (withEnable b u) = isFull u := rfl
  unfold execPoll at he ⊢
  rw [ha, pop_withEnable, hf]
  split at he
  · obtain rfl := Host.Outcome.next.inj he
    rw [if_pos ‹_›]; rfl
  · rw [if_neg ‹_›]
    cases hp : pop s with
    | none =>
      rw [hp] at he
      obtain rfl := Host.Outcome.next.inj he
      rfl
    | some q =>
      rw [hp] at he
      have hd := dispatchEntry_withEnable (b := b) q.1 he
      rw [← hf] at hd
      exact hd

theorem execRdreg_withEnable (k : BitVec 16) {b : Bool} {s t : State} (he : execRdreg k s = .next t) :
    execRdreg k (withEnable b s) = .next (withEnable b t) := by
  have hk : registerValue k (withEnable b s) = registerValue k s := rfl
  unfold execRdreg at he ⊢
  rw [hk]
  split at he <;> obtain rfl := Host.Outcome.next.inj he <;> rfl

theorem exec_withEnable {i : Instr} {b : Bool} {s t : State} (hi : writesEnable i = false) (he : exec i s = .next t) :
    exec i (withEnable b s) = .next (withEnable b t) := by
  cases i with
  | poll => exact execPoll_withEnable he
  | rdreg k => exact execRdreg_withEnable k he
  | eMove d n => exact execEMove_withEnable d n he
  | moton => simp [writesEnable] at hi
  | motoff => simp [writesEnable] at hi
  | mottg => simp [writesEnable] at hi
  | _ => ?_
  all_goals obtain rfl := Host.Outcome.next.inj he
  case qmove | qcutup | qcutdn | qcuttg => exact congrArg Host.Outcome.next (pushRequest_withEnable b s _)
  case qfull | qempty | isactive => rfl
  case stop => exact congrArg (fun u => Host.Outcome.next (respond .ok 0#32 u)) (softStop_withEnable b s)
  case stopall => exact congrArg (fun u => Host.Outcome.next (respond .ok 0#32 u)) (softStop_withEnable b (clearQueue s))
  case start d n =>
    rw [← respondOption_withEnable, ← startBody_withEnable]
    rfl
  case cutup | cutdn | cuttg =>
    exact congrArg Host.Outcome.next (cutterMove_withEnable b (holdResponse .ok 0#32 s) _ _)
  case eCutup | eCutdn | eCuttg => exact congrArg Host.Outcome.next (cutterMove_withEnable b s _ _)
  case timerEvent =>
    exact congrArg (fun r => Host.Outcome.next (armTimer r.2 r.1)) (handlerBody_withEnable b (enterInterrupt s))

/-- Settles O26: every operation commutes with setting ENABLE. -/
theorem enableDoesNotInterfere : Obligations.EnableDoesNotInterfere := by
  unfold Obligations.EnableDoesNotInterfere
  exact fun _ _ _ _ => exec_withEnable

/-! ## TICK and reset -/

/-- Settles O10: TICK is always enabled, and `tick` is the state R131 writes out. -/
theorem tickAdvancesTime : Obligations.TickAdvancesTime := by
  unfold Obligations.TickAdvancesTime
  intro s hv hf ha
  have hirq : (if s.now + 1#32 = s.timerDeadline then true else s.irqPending) =
      (decide (s.now + 1#32 = s.timerDeadline) || s.irqPending) := by
    by_cases h : s.now + 1#32 = s.timerDeadline <;> simp [h]
  have hpos : 0 < s.settleRemaining.toNat ↔ s.settleRemaining ≠ 0#32 := by
    simp [Nat.pos_iff_ne_zero, ← BitVec.toNat_inj]
  rw [step_of_valid s hv hf, ha, hirq, if_congr (and_congr_right' (a := s.fgMode = .settling) hpos) rfl rfl]
  rfl

/-- Settles O14, field by field of R142's table. -/
theorem resetGivesTableValues : Obligations.ResetGivesTableValues := by
  unfold Obligations.ResetGivesTableValues
  intro c d
  simp [State.resetWith]

end Sys2Proof.Machine
end

section
/-! The unread entries under a push, a pop and a clear (R501, R502, R505). -/

namespace Sys2Proof.Machine

/-- The queue after a pop that gives an entry (R502). -/
def popped (s : State) : State := { s with readIndex := nextIndex s s.readIndex }

/-- One index on is one more, or back to 0 (R117). -/
theorem nextIndex_eq {s : State} {i : Nat} (hi : i < s.cfg.queueCapacity) :
    nextIndex s i = if i + 1 = s.cfg.queueCapacity then 0 else i + 1 := by
  unfold nextIndex
  split
  · next h => rw [h, Nat.mod_self]
  · exact Nat.mod_eq_of_lt (by omega)

theorem nextIndex_lt {s : State} {i : Nat} (hi : i < s.cfg.queueCapacity) : nextIndex s i < s.cfg.queueCapacity :=
  Nat.mod_lt _ (by omega)

theorem queueCount_lt {s : State} (hw : s.writeIndex < s.cfg.queueCapacity) (hr : s.readIndex < s.cfg.queueCapacity) :
    queueCount s < s.cfg.queueCapacity := by
  rw [queueCount_eq s hw hr]
  split <;> omega

/-- A push adds one entry, where one more fits (R118). -/
theorem queueCount_pushed {s : State} (e : Word) (hw : s.writeIndex < s.cfg.queueCapacity)
    (hr : s.readIndex < s.cfg.queueCapacity) (hc : queueCount s + 1 < s.cfg.queueCapacity) :
    queueCount (pushed e s) = queueCount s + 1 := by
  rw [queueCount_eq s hw hr] at hc ⊢
  rw [queueCount_eq (pushed e s) (nextIndex_lt hw) hr]
  simp only [pushed, slotWrite_readIndex, slotWrite_cfg, nextIndex_eq hw]
  split_ifs at hc ⊢ <;> omega

/-- A pop takes one entry (R118). -/
theorem queueCount_popped {s : State} (hw : s.writeIndex < s.cfg.queueCapacity) (hr : s.readIndex < s.cfg.queueCapacity)
    (he : isEmpty s = false) : queueCount s = queueCount (popped s) + 1 := by
  have hne : s.writeIndex ≠ s.readIndex := by simpa [isEmpty] using he
  rw [queueCount_eq s hw hr, queueCount_eq (popped s) hw (nextIndex_lt hr)]
  simp only [popped, nextIndex_eq hr]
  split_ifs <;> omega

theorem queueCount_clearQueue (s : State) : queueCount (clearQueue s) = 0 := by simp [queueCount]

/-- Slot `k` of the unread entries, `k` below the count, is not the slot the next push writes; the slot at the count is (R117,
R118). -/
theorem slotOf_unread {s : State} (hw : s.writeIndex < s.cfg.queueCapacity) (hr : s.readIndex < s.cfg.queueCapacity)
    {k : Nat} (hk : k ≤ queueCount s) : slotOf s (s.readIndex + k) = slotOf s s.writeIndex ↔ k = queueCount s := by
  unfold slotOf
  rw [Nat.mod_eq_of_lt hw]
  rw [queueCount_eq s hw hr] at hk ⊢
  by_cases hlt : s.readIndex + k < s.cfg.queueCapacity
  · rw [Nat.mod_eq_of_lt hlt]
    split_ifs at hk ⊢ <;> omega
  · rw [Nat.mod_eq_sub_mod (by omega), Nat.mod_eq_of_lt (by split_ifs at hk <;> omega)]
    split_ifs at hk ⊢ <;> omega

/-- A push appends its word to the unread entries (R501, R504). -/
theorem unreadEntries_pushed {s : State} (e : Word) (hw : s.writeIndex < s.cfg.queueCapacity)
    (hr : s.readIndex < s.cfg.queueCapacity) (hc : queueCount s + 1 < s.cfg.queueCapacity) (hs : s.SlotsCanonical) :
    unreadEntries (pushed e s) = unreadEntries s ++ [e] := by
  obtain ⟨-, hsame, hother⟩ := slotWrite_spec s.writeIndex e s (by omega) hs
  have hlast : slotRead (pushed e s) (s.readIndex + queueCount s) = e := by
    have hslot := (slotOf_unread hw hr le_rfl).2 rfl
    exact (congrArg (Memory.read (pushed e s).slots) hslot).trans hsame
  have hold : ∀ k ∈ List.range (queueCount s), slotRead (pushed e s) (s.readIndex + k) = slotRead s (s.readIndex + k) := by
    intro k hk
    have hlt := List.mem_range.1 hk
    exact hother _ fun h => absurd ((slotOf_unread hw hr hlt.le).1 h) hlt.ne
  unfold unreadEntries
  rw [queueCount_pushed e hw hr hc, List.range_succ, List.map_append]
  exact congrArg₂ (· ++ ·) (List.map_congr_left hold) (congrArg (fun x => [x]) hlast)

/-- A pop takes the oldest entry off (R502, R504). -/
theorem unreadEntries_popped {s : State} (hw : s.writeIndex < s.cfg.queueCapacity)
    (hr : s.readIndex < s.cfg.queueCapacity) (he : isEmpty s = false) :
    unreadEntries s = slotRead s s.readIndex :: unreadEntries (popped s) := by
  have hnext (k : Nat) : slotRead (popped s) (nextIndex s s.readIndex + k) = slotRead s (s.readIndex + (k + 1)) := by
    have hmod : slotOf s (nextIndex s s.readIndex + k) = slotOf s (s.readIndex + (k + 1)) := by
      unfold slotOf nextIndex
      rw [Nat.mod_add_mod]
      congr 1
      omega
    exact congrArg (Memory.read s.slots) hmod
  unfold unreadEntries
  rw [queueCount_popped hw hr he, List.range_succ_eq_map, List.map_cons, List.map_map]
  exact congrArg₂ List.cons rfl (List.map_congr_left fun k _ => (hnext k).symm)

theorem unreadEntries_clearQueue (s : State) : unreadEntries (clearQueue s) = [] := by
  unfold unreadEntries
  rw [queueCount_clearQueue]
  rfl

end Sys2Proof.Machine
end

section
/-! The invariant of the block at reset and under every step (O15, O16). -/

namespace Sys2Proof.Machine

/-! ## Updates of fields the invariant does not speak of -/

theorem inv_respondWord {s : State} (h : s.Inv) (w : Word) : (respondWord w s).Inv := { h with }
theorem inv_emit {s : State} (h : s.Inv) (e : Event) : (emit e s).Inv := { h with }
theorem inv_setEnable {s : State} (h : s.Inv) (b : Bool) : (setEnable b s).Inv := { h with }
theorem inv_dropRequest {s : State} (h : s.Inv) : (dropRequest s).Inv := { h with }
theorem inv_advanceSchedule {s : State} (h : s.Inv) : (advanceSchedule s).Inv := { h with }
theorem inv_enterInterrupt {s : State} (h : s.Inv) : (enterInterrupt s).Inv := { h with }
theorem inv_rearm {s : State} (h : s.Inv) (n : Tick) : (rearm n s).Inv := { h with timer := rfl }

/-- N and H are at least 2 (R13). -/
theorem valid_capacity {c : Config} (h : c.Valid) :
    2 ≤ c.queueCapacity ∧ 2 ≤ c.queueHeadroom ∧ c.queueHeadroom ≤ c.queueCapacity := by
  obtain ⟨-, -, -, ⟨hN, -⟩, ⟨hH, hHN⟩, -⟩ := h
  exact ⟨hN, hH, hHN⟩

/-! ## The queue -/

theorem inv_pushed {s : State} (h : s.Inv) (hf : isFull s = false) {e : Word} (he : LegalEntry e) :
    (pushed e s).Inv := by
  obtain ⟨hw, hr, -⟩ := h.queue
  obtain ⟨hN, hH, -⟩ := valid_capacity h.valid
  have hfree := queueCount_le_of_not_full s hf
  have hc : queueCount s + 1 < s.cfg.queueCapacity := by omega
  refine { h with queue := ⟨nextIndex_lt hw, hr, ?_⟩, slots := ?_, entries := ?_ }
  · rw [queueCount_pushed e hw hr hc]
    show queueCount s + 1 + s.cfg.queueHeadroom ≤ s.cfg.queueCapacity + 1
    omega
  · exact (slotWrite_spec s.writeIndex e s (by omega) h.slots).1
  · intro x hx
    rw [unreadEntries_pushed e hw hr hc h.slots, List.mem_append, List.mem_singleton] at hx
    rcases hx with hx | rfl
    · exact h.entries x hx
    · exact he

theorem inv_popped {s : State} (h : s.Inv) (he : isEmpty s = false) : (popped s).Inv := by
  obtain ⟨hw, hr, hc⟩ := h.queue
  have hcount := queueCount_popped hw hr he
  refine { h with queue := ⟨hw, nextIndex_lt hr, ?_⟩, entries := fun x hx => h.entries x ?_ }
  · show queueCount (popped s) + s.cfg.queueHeadroom ≤ s.cfg.queueCapacity + 1
    omega
  · rw [unreadEntries_popped hw hr he]
    exact List.mem_cons_of_mem _ hx

theorem inv_clearQueue {s : State} (h : s.Inv) : (clearQueue s).Inv := by
  obtain ⟨hN, -, hHN⟩ := valid_capacity h.valid
  refine { h with queue := ⟨?_, ?_, ?_⟩, entries := ?_ }
  · show 0 < s.cfg.queueCapacity
    omega
  · show 0 < s.cfg.queueCapacity
    omega
  · rw [queueCount_clearQueue]
    show 0 + s.cfg.queueHeadroom ≤ s.cfg.queueCapacity + 1
    omega
  · intro x hx
    simp [unreadEntries_clearQueue] at hx

theorem inv_prepared {i : Instr} {s : State} (h : s.Inv) {r : Nat} (hr : PopsTo i s r) (w : Word) :
    (prepared r w s).Inv := by
  rcases hr with rfl | ⟨-, -, he, rfl⟩
  · exact { h with }
  · exact { inv_popped h he with }

/-- The entry POLL is about to dispatch is a legal one, so its kind is known (R312). -/
theorem head_known {s : State} (h : s.Inv) (he : isEmpty s = false) :
    decodeEntry (slotRead s s.readIndex) ≠ none := by
  obtain ⟨hw, hr, -⟩ := h.queue
  have hmem : slotRead s s.readIndex ∈ unreadEntries s := by
    rw [unreadEntries_popped hw hr he]
    exact List.mem_cons_self
  obtain ⟨-, hk⟩ := h.entries _ hmem
  exact Option.isSome_iff_ne_none.1 hk

/-! ## The cutter, the soft stop and the fault -/

theorem inv_cutterMove {s : State} (h : s.Inv) {p : BitVec 16} (hp : p = s.cfg.cutterUpPos ∨ p = s.cfg.cutterDownPos)
    (m : BitVec 16) : (cutterMove p m s).Inv := by
  obtain ⟨hstep, hdir, -⟩ := h.outputs
  rcases cutterMove_spec p m s with ⟨-, e⟩ | ⟨-, e⟩ <;> rw [e]
  · exact { h with outputs := ⟨hstep, hdir, rfl⟩, cutter := hp }
  · exact { h with outputs := ⟨hstep, hdir, rfl⟩, cutter := hp, settle := fun hm => by cases hm }

theorem inv_softStop {s : State} (h : s.Inv) : (softStop s).Inv := by
  unfold softStop
  split
  · exact { h with ahead := fun _ => ⟨fun _ => le_rfl, fun _ => le_rfl⟩ }
  · exact h

theorem inv_positionOverflow {s : State} (h : s.Inv) : (raiseFault .positionOverflow s).Inv := by
  unfold raiseFault
  split
  · exact h
  · refine { h with noBadEntry := ?_ }
    simpa [State.NoBadEntry] using h.noBadEntry

/-! ## START -/

/-- The bounds of R411's half-period, the upper one from 65535 ms at 65537 ticks each over two half-periods. -/
theorem halfPeriodFor_bounds {c : Config} (hc : c.Valid) (d : BitVec 16) {δ : Int} (h0 : δ ≠ 0) :
    c.minHalfPeriod ≤ halfPeriodFor c d δ ∧ halfPeriodFor c d δ ≤ 2 ^ 31 - 1 := by
  obtain ⟨⟨-, ht⟩, ⟨-, hmin⟩, -⟩ := hc
  have hd : d.toNat ≤ 65535 := by omega
  have hprod : d.toNat * c.ticksPerMs ≤ 65535 * 65537 := Nat.mul_le_mul hd ht
  have hdiv : d.toNat * c.ticksPerMs / (2 * δ.natAbs) ≤ 65535 * 65537 / 2 :=
    Nat.div_le_div hprod (by omega) (by omega)
  unfold halfPeriodFor
  omega

theorem toNat_u32_natCast {n : Nat} (h : n ≤ 2 ^ 31 - 1) : (u32 (n : Int)).toNat = n := by
  rw [u32_natCast, BitVec.toNat_ofNat]
  exact Nat.mod_eq_of_lt (by omega)

/-- Every entry of a valid table is a repeat count above 0 (R13). -/
theorem rampTableRead_ne_zero {c : Config} (hc : c.Valid) (i : Nat) : rampTableRead c i ≠ 0#16 := by
  obtain ⟨-, -, -, -, -, ⟨hL, -, h0⟩, -⟩ := hc
  have hlt : min i (c.rampTable.length - 1) < c.rampTable.length := by omega
  unfold rampTableRead
  rw [List.getD_eq_getElem _ _ hlt]
  exact fun h => h0 (h ▸ List.getElem_mem hlt)

/-- The cruise half-period at once, or the start of a ramp (R415). -/
theorem setSpeed_plain {s : State} (hr : s.cfg.rampEnabled = false) (δ : Int) (hp : BitVec 32) :
    setSpeed δ hp s = { s with targetHalfPeriod := hp, halfPeriod := hp, rampPhase := .none } := by
  unfold setSpeed
  exact if_neg (by simp [hr])

theorem setSpeed_ramped {s : State} (hr : s.cfg.rampEnabled = true) (δ : Int) (hp : BitVec 32) :
    setSpeed δ hp s = rampInit δ { s with targetHalfPeriod := hp } := by
  unfold setSpeed
  exact if_pos hr

/-- An accepted move without ramp shaping (R415). -/
theorem acceptMove_plain {s : State} (hr : s.cfg.rampEnabled = false) (d : BitVec 16) (δ u : Int) :
    acceptMove d δ u s =
      { setDirection (directionOf δ) { s with target := u32 u } with
        targetHalfPeriod := u32 (halfPeriodFor s.cfg d δ), halfPeriod := u32 (halfPeriodFor s.cfg d δ)
        rampPhase := .none, pulsePhase := false, active := true } :=
  congrArg (fun x : State => { x with pulsePhase := false, active := true })
    (setSpeed_plain (s := setDirection (directionOf δ) { s with target := u32 u }) hr δ _)

/-- An accepted move with ramp shaping (R415, R481). -/
theorem acceptMove_ramped {s : State} (hr : s.cfg.rampEnabled = true) (d : BitVec 16) (δ u : Int) :
    acceptMove d δ u s =
      { rampInit δ { setDirection (directionOf δ) { s with target := u32 u } with
          targetHalfPeriod := u32 (halfPeriodFor s.cfg d δ) } with
        pulsePhase := false, active := true } :=
  congrArg (fun x : State => { x with pulsePhase := false, active := true })
    (setSpeed_ramped (s := setDirection (directionOf δ) { s with target := u32 u }) hr δ _)

/-- START's half-periods lie within R138's bounds, with ramp shaping and without. -/
theorem halfPeriodBounds_acceptMove {s : State} (hc : s.cfg.Valid) (d : BitVec 16) {δ : Int} (h0 : δ ≠ 0) (u : Int) :
    (acceptMove d δ u s).HalfPeriodBounds := by
  obtain ⟨hmin, hmax⟩ := halfPeriodFor_bounds hc d h0
  have hthp := toNat_u32_natCast hmax
  have hstart : s.cfg.rampStartHalfPeriod ≤ 2 ^ 31 - 1 := by
    obtain ⟨-, -, -, -, -, -, ⟨-, h⟩⟩ := hc
    exact h
  have hslow : rampSlowest s.cfg (u32 (halfPeriodFor s.cfg d δ)) =
      max s.cfg.rampStartHalfPeriod (halfPeriodFor s.cfg d δ) := by rw [rampSlowest, hthp]
  have hhp : (acceptMove d δ u s).halfPeriod.toNat =
      if s.cfg.rampEnabled then max s.cfg.rampStartHalfPeriod (halfPeriodFor s.cfg d δ) else halfPeriodFor s.cfg d δ := by
    cases hr : s.cfg.rampEnabled
    · rw [acceptMove_plain hr]
      exact hthp
    · rw [acceptMove_ramped hr]
      show (u32 (rampSlowest s.cfg (u32 (halfPeriodFor s.cfg d δ)))).toNat = _
      rw [hslow]
      exact toNat_u32_natCast (by omega)
  unfold State.HalfPeriodBounds
  rw [acceptMove_targetHalfPeriod, acceptMove_cfg, hhp, hslow, hthp]
  split <;> omega

/-- START's direction is the side the target lies on (R412). -/
theorem directionOf_ahead (p : Int) (δ : Int) :
    (directionOf δ = .forward → p ≤ p + δ) ∧ (directionOf δ = .reverse → p + δ ≤ p) := by
  unfold directionOf
  split
  · exact ⟨fun _ => by omega, nofun⟩
  · exact ⟨nofun, fun _ => by omega⟩

theorem inv_acceptMove {s : State} (h : s.Inv) (ha : s.active = false) (d : BitVec 16) {δ : Int} (h0 : δ ≠ 0)
    (hf : fitsS32 (s32 s.position + δ) = true) : (acceptMove d δ (s32 s.position + δ) s).Inv := by
  obtain ⟨-, hlow, -⟩ := h.idle ha
  obtain ⟨-, -, hservo⟩ := h.outputs
  have hahead : (directionOf δ = .forward → s32 s.position ≤ s32 (u32 (s32 s.position + δ))) ∧
      (directionOf δ = .reverse → s32 (u32 (s32 s.position + δ)) ≤ s32 s.position) := by
    simp only [fitsS32, decide_eq_true_eq] at hf
    rw [s32_u32 _ hf.1 hf.2]
    exact directionOf_ahead _ δ
  have hbounds := halfPeriodBounds_acceptMove h.valid d h0 (s32 s.position + δ)
  cases hr : s.cfg.rampEnabled
  · rw [acceptMove_plain hr] at hbounds ⊢
    exact { h with
      outputs := ⟨hlow, rfl, hservo⟩
      idle := nofun
      rampPhase := fun _ => ⟨fun _ => hr, fun _ => rfl⟩
      halfPeriod := hbounds
      ahead := fun _ => hahead
      behind := fun _ he => absurd (hr.symm.trans he) (by decide)
      cursor := ⟨h.cursor.1, fun _ he => absurd (hr.symm.trans he) (by decide)⟩ }
  · rw [acceptMove_ramped hr] at hbounds ⊢
    exact { h with
      outputs := ⟨hlow, rfl, hservo⟩
      idle := nofun
      rampPhase := fun _ => ⟨nofun, fun he => absurd (hr.symm.trans he) (by decide)⟩
      halfPeriod := hbounds
      ahead := fun _ => hahead
      behind := fun _ _ => ⟨fun _ => le_rfl, fun _ => le_rfl⟩
      cursor := ⟨Nat.zero_lt_of_lt h.cursor.1, fun _ _ => rampTableRead_ne_zero h.valid 0⟩ }

/-! ## A foreground operation -/

theorem FgEffect.inv {i : Instr} {s t : State} (he : FgEffect i s t) (h : s.Inv) : t.Inv := by
  cases he with
  | answer hr u w => exact inv_respondWord (inv_prepared h hr u) w
  | push _ hf he w => exact inv_respondWord (inv_pushed h hf he) w
  | stop _ w => exact inv_respondWord (inv_softStop h) w
  | stopall _ w => exact inv_respondWord (inv_softStop (inv_clearQueue h)) w
  | enable _ b w => exact inv_respondWord (inv_setEnable h b) w
  | cutter _ hr u hp m => exact inv_cutterMove (inv_prepared h hr u) hp m
  | rejected _ _ w => exact inv_respondWord (inv_emit h _) w
  | started _ ha hr u d h0 hf w => exact inv_respondWord (inv_acceptMove (inv_prepared h hr u) ha d h0 hf) w
  | overflow _ _ hr u => exact inv_positionOverflow (inv_prepared h hr u)
  | badEntry _ hm _ _ hk => exact absurd hk (head_known h hm)

/-! ## The ramp advance -/

theorem inv_rampTransition {s : State} (h : s.Inv) : (rampTransition s).Inv := by
  unfold rampTransition
  split
  · next hc =>
    obtain ⟨haccel, -⟩ := hc
    refine { h with idle := fun hi => ?_, rampPhase := fun hi => ⟨nofun, fun he => ?_⟩ }
    · obtain ⟨-, -, hnone⟩ := h.idle hi
      simp [haccel] at hnone
    · have hnone := (h.rampPhase hi).2 he
      simp [haccel] at hnone
  · exact h

/-- One tick faster, not past the cruise half-period (R485). -/
theorem inv_rampAccelAdjust {s : State} (h : s.Inv) : (rampAccelAdjust s).Inv := by
  obtain ⟨hmax, htmax, hact⟩ := h.halfPeriod
  obtain ⟨hidx, hcount⟩ := h.cursor
  unfold rampAccelAdjust
  split
  · next hlt =>
    have hcruise : s.targetHalfPeriod.toNat ≤ (s.halfPeriod - 1#32).toNat := by bv_omega
    have hfaster : (s.halfPeriod - 1#32).toNat ≤ s.halfPeriod.toNat := by bv_omega
    have hnext : min (s.rampIndex + 1) (s.cfg.rampTable.length - 1) < s.cfg.rampTable.length := by omega
    refine { h with
      halfPeriod := ⟨hfaster.trans hmax, htmax, fun hi => ?_⟩
      cursor := ⟨hnext, hcount⟩ }
    obtain ⟨hmin, -, hslow⟩ := hact hi
    exact ⟨hmin, hcruise, hfaster.trans hslow⟩
  · exact h

/-- One tick slower, not past the ramp's slowest half-period (R486). -/
theorem inv_rampDecelAdjust {s : State} (h : s.Inv) : (rampDecelAdjust s).Inv := by
  obtain ⟨hmax, htmax, hact⟩ := h.halfPeriod
  obtain ⟨hidx, hcount⟩ := h.cursor
  have hslowest : rampSlowest s.cfg s.targetHalfPeriod ≤ 2 ^ 31 - 1 := by
    obtain ⟨-, -, -, -, -, -, ⟨-, hstart⟩⟩ := h.valid
    exact max_le hstart htmax
  unfold rampDecelAdjust
  split
  · next hlt =>
    have hslower : (s.halfPeriod + 1#32).toNat = s.halfPeriod.toNat + 1 := by bv_omega
    have hnew : (s.halfPeriod + 1#32).toNat ≤ rampSlowest s.cfg s.targetHalfPeriod := by omega
    refine { h with
      halfPeriod := ⟨hnew.trans hslowest, htmax, fun hi => ?_⟩
      cursor := ⟨lt_of_le_of_lt (Nat.sub_le _ _) hidx, hcount⟩ }
    obtain ⟨hmin, hcruise, -⟩ := hact hi
    exact ⟨hmin, hcruise.trans (hslower ▸ Nat.le_succ _), hnew⟩
  · exact h

theorem inv_rampAdjustAndReload {s : State} (h : s.Inv) : (rampAdjustAndReload s).Inv := by
  have ha : (if s.rampPhase = .accel then rampAccelAdjust s else rampDecelAdjust s).Inv := by
    split
    · exact inv_rampAccelAdjust h
    · exact inv_rampDecelAdjust h
  exact { ha with cursor := ⟨ha.cursor.1, fun _ _ => rampTableRead_ne_zero ha.valid _⟩ }

/-- The adjustment and the reload do not read the count they overwrite (R487). -/
theorem rampAdjustAndReload_ignores_rampIterCount (s : State) (c : BitVec 16) :
    rampAdjustAndReload { s with rampIterCount := c } = rampAdjustAndReload s := by
  unfold rampAdjustAndReload rampAccelAdjust rampDecelAdjust
  dsimp only
  split_ifs <;> rfl

theorem inv_rampCountdown {s : State} (h : s.Inv) : (rampCountdown s).Inv := by
  rcases rampCountdown_spec s with ⟨hc, e⟩ | ⟨-, e⟩ <;> rw [e]
  · exact { h with cursor := ⟨h.cursor.1, fun _ _ => by show s.rampIterCount - 1#16 ≠ 0#16; bv_omega⟩ }
  · rw [rampAdjustAndReload_ignores_rampIterCount]
    exact inv_rampAdjustAndReload h

theorem inv_rampAdvance {s : State} (h : s.Inv) : (rampAdvance s).Inv := inv_rampCountdown (inv_rampTransition h)

/-! ## The interrupt handler -/

/-- The axis at rest with its pulse lowered (R139). -/
theorem inv_atRest_lowered {s : State} (h : s.Inv) : (atRest (lowered s)).Inv := by
  obtain ⟨hstep, hdir, hservo⟩ := h.outputs
  have hlow : (s.stepOut && !s.pulsePhase) = false := by simp [hstep]
  exact { h with
    outputs := ⟨hlow, hdir, hservo⟩
    idle := fun _ => ⟨rfl, hlow, rfl⟩
    rampPhase := nofun
    halfPeriod := ⟨h.halfPeriod.1, h.halfPeriod.2.1, nofun⟩
    ahead := nofun
    behind := nofun
    cursor := ⟨Nat.zero_lt_of_lt h.cursor.1, nofun⟩ }

theorem inv_lowerStep {s : State} (h : s.Inv) : (lowerStep s).Inv := by
  obtain ⟨-, hdir, hservo⟩ := h.outputs
  exact { h with
    outputs := ⟨rfl, hdir, hservo⟩
    idle := fun hi => ⟨rfl, rfl, (h.idle hi).2.2⟩ }

/-- A microstep toward a target ahead does not pass it, and leaves the start of the move behind (R424). -/
theorem inv_rose {s : State} (h : s.Inv) (ha : s.active = true) (hp : s.position ≠ s.target) (n : Tick) :
    (rearm n (risingEdge s)).Inv := by
  obtain ⟨-, hdir, hservo⟩ := h.outputs
  obtain ⟨hfwd, hrev⟩ := h.ahead ha
  have hstep := s32_stepToward hp
  refine { h with
    outputs := ⟨rfl, hdir, hservo⟩
    idle := fun hi => absurd (ha.symm.trans hi) (by decide)
    timer := rfl
    ahead := fun _ => ⟨fun hd => ?_, fun hd => ?_⟩
    behind := fun _ he => ⟨fun hd => ?_, fun hd => ?_⟩ }
  · have := hfwd hd
    show s32 (stepToward s.position s.target) ≤ s32 s.target
    omega
  · have := hrev hd
    show s32 s.target ≤ s32 (stepToward s.position s.target)
    omega
  · have := hfwd hd
    have := (h.behind ha he).1 hd
    show s32 s.rampStartPosition ≤ s32 (stepToward s.position s.target)
    omega
  · have := hrev hd
    have := (h.behind ha he).2 hd
    show s32 (stepToward s.position s.target) ≤ s32 s.rampStartPosition
    omega

theorem HandlerEffect.inv {s t : State} (he : HandlerEffect s t) (h : s.Inv) : t.Inv := by
  cases he with
  | idle _ n => exact inv_rearm h n
  | disarmed _ _ n => exact inv_rearm (inv_emit (inv_atRest_lowered h) _) n
  | completed _ _ _ n => exact inv_rearm (inv_emit (inv_atRest_lowered h) _) n
  | fell _ _ _ _ n =>
    refine inv_rearm ?_ n
    split
    · exact inv_lowerStep h
    · exact inv_rampAdvance (inv_lowerStep h)
  | rose ha _ _ hp n => exact inv_rose h ha hp n
  | waited _ _ _ _ n => exact inv_rearm h n

/-! ## A step -/

theorem inv_settleEnd {s : State} (h : s.Inv) (h0 : s.settleRemaining = 0#32) : (settleEnd s).Inv :=
  { h with settle := fun _ => h0 }

theorem inv_tick {s : State} (h : s.Inv) : (tick s).Inv := by
  refine { h with settle := fun hm => ?_ }
  have hready : s.fgMode = .ready := hm
  simpa [tick, hready] using h.settle hready

/-- Settles O16: each effect of a step keeps the invariant. -/
theorem stepKeepsInvariant : Obligations.StepKeepsInvariant := by
  unfold Obligations.StepKeepsInvariant
  intro s t h hst
  have hadv := inv_advanceSchedule h
  obtain ⟨-, -, ⟨i, he⟩ | ⟨h0, rfl⟩ | he | rfl⟩ := step_effect hst
  · exact he.inv (inv_dropRequest hadv)
  · exact inv_settleEnd hadv h0
  · exact he.inv (inv_enterInterrupt hadv)
  · exact inv_tick hadv

/-! ## Reset -/

theorem inv_resetWith {c : Config} (d : Draws) (hc : c.Valid) (hd : Memory.wf c.queueCapacity d.slots) :
    (State.resetWith c d).Inv := by
  obtain ⟨hN, -, hHN⟩ := valid_capacity hc
  have hL : 0 < c.rampTable.length := by
    obtain ⟨-, -, -, -, -, ⟨hL, -⟩, -⟩ := hc
    omega
  have hempty : queueCount (State.resetWith c d) = 0 := by simp [queueCount, State.resetWith]
  exact {
    valid := hc
    outputs := ⟨rfl, rfl, rfl⟩
    idle := fun _ => ⟨rfl, rfl, rfl⟩
    rampPhase := nofun
    halfPeriod := ⟨Nat.zero_le _, Nat.zero_le _, nofun⟩
    timer := rfl
    ahead := nofun
    behind := nofun
    cursor := ⟨hL, nofun⟩
    cutter := .inl rfl
    queue := ⟨by show 0 < c.queueCapacity; omega, by show 0 < c.queueCapacity; omega,
      by rw [hempty]; show 0 + c.queueHeadroom ≤ c.queueCapacity + 1; omega⟩
    slots := hd
    entries := fun e he => by simp [unreadEntries, hempty] at he
    settle := fun _ => rfl
    noBadEntry := by simp [State.NoBadEntry, State.resetWith] }

/-- Settles O15: the general reset, and `State.reset`'s own parameters and draws. -/
theorem resetMeetsInvariant : Obligations.ResetMeetsInvariant := by
  unfold Obligations.ResetMeetsInvariant
  exact ⟨fun _ d => inv_resetWith d, inv_resetWith Draws.zero (by decide) reset_slots_wf⟩

end Sys2Proof.Machine
end

section
/-! A word over a byte channel (R201): the bytes of a concatenation, and the concatenation of a word's bytes (O4). -/

namespace Sys2Proof

/-! ## Bytes of a concatenation

The library's rules at the width of a byte: with both widths free, `simp` does not match them against the sums of literals that
`wordOfBytes` builds. -/

@[simp] theorem extractLsb'_append_byte_low {n : Nat} (x : BitVec n) (b : Byte) : (x ++ b).extractLsb' 0 8 = b :=
  BitVec.extractLsb'_append_eq_right

@[simp] theorem extractLsb'_append_byte_high {n k : Nat} (x : BitVec n) (b : Byte) (hk : 8 ≤ k) :
    (x ++ b).extractLsb' k 8 = x.extractLsb' (k - 8) 8 :=
  BitVec.extractLsb'_append_eq_of_le hk

/-- A byte of a word joins the bits just above it. -/
theorem extractLsb'_append_extractLsb'_byte {n j k : Nat} (w : Word) (h : j = k + 8) :
    w.extractLsb' j n ++ w.extractLsb' k 8 = w.extractLsb' k (n + 8) :=
  BitVec.extractLsb'_append_extractLsb'_eq_extractLsb' h

/-! ## The two directions of R201 -/

theorem bytesOfWord_length (w : Word) : (bytesOfWord w).length = 8 := rfl

/-- Byte `k` in the order of sending is bits `8k+7` to `8k`. -/
theorem bytesOfWord_eq_map (w : Word) : bytesOfWord w = (List.range 8).map fun k => w.extractLsb' (8 * k) 8 := rfl

theorem wordOfBytes_bytesOfWord (w : Word) : wordOfBytes (bytesOfWord w) = some w := by
  simp [bytesOfWord, wordOfBytes, extractLsb'_append_extractLsb'_byte]

/-- Receiving is the inverse of sending: the bytes that carry `w` are exactly those sent for it. -/
theorem wordOfBytes_eq_some_iff {bs : List Byte} {w : Word} : wordOfBytes bs = some w ↔ bytesOfWord w = bs := by
  refine ⟨fun h => ?_, ?_⟩
  · unfold wordOfBytes at h
    split at h
    · obtain rfl := Option.some.inj h
      simp [bytesOfWord]
    · cases h
  · rintro rfl
    exact wordOfBytes_bytesOfWord w

theorem exists_wordOfBytes {bs : List Byte} (h : bs.length = 8) : ∃ w, wordOfBytes bs = some w :=
  match bs, h with
  | [_, _, _, _, _, _, _, _], _ => ⟨_, rfl⟩

/-- Settles O4: eight bytes carry a word, and the words and their bytes are in bijection. -/
theorem bytesCarryWordLittleEndian : Obligations.BytesCarryWordLittleEndian := by
  unfold Obligations.BytesCarryWordLittleEndian
  refine ⟨fun w => ⟨bytesOfWord_length w, wordOfBytes_bytesOfWord w, fun k hk => ?_⟩,
    fun _ _ => wordOfBytes_eq_some_iff.1, fun bs => ⟨exists_wordOfBytes, ?_⟩⟩
  · simp [bytesOfWord_eq_map, hk]
  · rintro ⟨w, h⟩
    rw [← wordOfBytes_eq_some_iff.1 h, bytesOfWord_length]

end Sys2Proof
end

section
/-! The frame of the slot space (R200, R501, O25). -/

namespace Sys2Proof.Machine

/-- What a slot reads depends on the memory and on the capacity alone (R117, R200). -/
theorem slotRead_congr {s t : State} (hc : t.cfg = s.cfg) (hs : t.slots = s.slots) (j : Nat) :
    slotRead t j = slotRead s j := by
  unfold slotRead slotOf
  rw [hc, hs]

/-- A push leaves every slot but the one `writeIndex` names, in any slot memory (R501). -/
theorem slotRead_pushed_other (e : Word) {s : State} {j : Nat} (hj : slotOf s j ≠ slotOf s s.writeIndex) :
    slotRead (pushed e s) j = slotRead s j :=
  Memory.read_write_other _ _ _ _ hj

theorem FgEffect.slotRead_eq {i : Instr} {s t : State} (he : FgEffect i s t) {j : Nat}
    (hj : isQueuePush i = true → slotOf s j ≠ slotOf s s.writeIndex) : slotRead t j = slotRead s j := by
  have hc := he.cfg
  cases he with
  | push hi _ _ w => exact slotRead_pushed_other _ (hj hi)
  | _ => exact slotRead_congr hc (by simp [prepared]) j

/-- Settles O25: a foreground operation writes a slot by its push alone, and the handler writes none. -/
theorem slotsFrame : Obligations.SlotsFrame := by
  unfold Obligations.SlotsFrame
  intro i s t he j hj
  by_cases hi : i = .timerEvent
  · subst hi
    have ef := handler_effect he
    obtain ⟨-, ⟨hslots, -, -⟩, -, -⟩ := ef.frame
    exact slotRead_congr ef.cfg hslots j
  · exact (exec_effect hi he).slotRead_eq hj

end Sys2Proof.Machine
end

section
/-! The encoder and the decoder are inverse (R304 to R311), and the decoder accepts the legal words (R307): O1, O2, O3, O5. -/

namespace Sys2Proof

/-! ## Decoding an encoded operation -/

/-- Only the timer event has no word (R315). -/
theorem exists_encode {i : Instr} (hi : i ≠ .timerEvent) : ∃ w, encode i = some w := by
  cases i with
  | timerEvent => exact absurd rfl hi
  | _ => exact ⟨_, rfl⟩

section
variable (o : BitVec 8)

theorem decodeM_packWord (mk : BitVec 16 → BitVec 32 → Instr) (d : BitVec 16) (n : BitVec 32) :
    decodeM mk (packWord o d n) = .ok (mk d n) := by simp [decodeM]

theorem decodeS_packWord (mk : BitVec 16 → Instr) (m : BitVec 16) : decodeS mk (packWord o m 0#32) = .ok (mk m) := by
  simp [decodeS_ok]

theorem decodeZ_packWord (i : Instr) : decodeZ i (packWord o 0#16 0#32) = .ok i := by simp [decodeZ_ok]

theorem decodeX_packWord (mk : BitVec 16 → Instr) {k : BitVec 16} (hk : k.toNat ≤ 6) :
    decodeX mk (packWord o k 0#32) = .ok (mk k) := by simp [decodeX_ok, hk]

end

/-- The opcode map finds the operation's row, and the row's format check passes (R304, R305). -/
theorem decodeRequest_of_encode {i : Instr} {w : Word} (hs : i.space = .request) (hw : i.wellFormed = true)
    (he : encode i = some w) : decodeRequest w = .ok i := by
  cases i with
  | eMove | eCutup | eCutdn | eCuttg | timerEvent => cases hs
  | _ => ?_
  all_goals
    obtain rfl := Option.some.inj he
    rw [decodeRequest_packWord]
    unfold decodeOp
    rw [opField_packWord]
  case qmove d n | start d n => exact decodeM_packWord _ _ d n
  case qcutup m | qcutdn m | qcuttg m | cutup m | cutdn m | cuttg m => exact decodeS_packWord _ _ m
  case rdreg k => exact decodeX_packWord _ _ (of_decide_eq_true hw)
  all_goals exact decodeZ_packWord _ _

/-- An entry's kind is its OP (R311). -/
theorem decodeEntry_of_encode {i : Instr} {w : Word} (hs : i.space = .queueEntry) (he : encode i = some w) :
    decodeEntry w = some i := by
  cases i with
  | eMove | eCutup | eCutdn | eCuttg =>
    obtain rfl := Option.some.inj he
    simp [decodeEntry]
  | _ => cases hs

/-- Settles O1: every operation but the timer event has a word, and the decoder of its space reads it back. -/
theorem decodeOfEncodeIsIdentity : Obligations.DecodeOfEncodeIsIdentity := by
  unfold Obligations.DecodeOfEncodeIsIdentity
  refine ⟨fun i hs hw => ?_, fun i hs => ?_, rfl⟩
  · obtain ⟨w, he⟩ := exists_encode (i := i) (by rintro rfl; cases hs)
    exact ⟨w, he, decodeRequest_of_encode hs hw he⟩
  · obtain ⟨w, he⟩ := exists_encode (i := i) (by rintro rfl; cases hs)
    exact ⟨w, he, decodeEntry_of_encode hs he⟩

/-! ## The opcode map by format -/

/-- What the opcode map answers for a word: the check of its OP's format, for an operation that is well formed and has that OP, or
the rejection of an OP that R304 does not list. -/
inductive OpDecoding (w : Word) : Except Reject Instr → Prop
  | M {o : BitVec 8} {mk : BitVec 16 → BitVec 32 → Instr} (ho : opField w = o) (hf : formatOf o = some .M)
      (hw : ∀ d n, (mk d n).wellFormed = true) (he : ∀ d n, encode (mk d n) = some (packWord o d n)) :
      OpDecoding w (decodeM mk w)
  | S {o : BitVec 8} {mk : BitVec 16 → Instr} (ho : opField w = o) (hf : formatOf o = some .S)
      (hw : ∀ m, (mk m).wellFormed = true) (he : ∀ m, encode (mk m) = some (packWord o m 0#32)) :
      OpDecoding w (decodeS mk w)
  | X (ho : opField w = 0x50#8) : OpDecoding w (decodeX .rdreg w)
  | Z {o : BitVec 8} {i : Instr} (ho : opField w = o) (hf : formatOf o = some .Z)
      (hw : i.wellFormed = true) (he : encode i = some (packWord o 0#16 0#32)) : OpDecoding w (decodeZ i w)
  | unknown (hf : formatOf (opField w) = none) : OpDecoding w (.error .unknownOp)

/-- `decodeOp` row by row; the cases are its arms in their order. -/
theorem decodeOp_opDecoding (w : Word) : OpDecoding w (decodeOp w) := by
  unfold decodeOp
  split
  case h_1 ho | h_10 ho => exact .M ho rfl (fun _ _ => rfl) (fun _ _ => rfl)
  case h_2 ho | h_3 ho | h_4 ho | h_15 ho | h_16 ho | h_17 ho => exact .S ho rfl (fun _ => rfl) (fun _ => rfl)
  case h_18 ho => exact .X ho
  case h_19 => exact .unknown (by simp_all [formatOf])
  all_goals exact .Z ‹_› rfl rfl rfl

/-- The format check asks of the operands what R307 asks (R305). -/
theorem OpDecoding.legal_iff {w : Word} {r : Except Reject Instr} (h : OpDecoding w r) :
    Legal w ↔ rsvField w = 0#8 ∧ ∃ i, r = .ok i := by
  unfold Legal
  cases h with
  | M ho hf => simp [ho, hf, decodeM]
  | S ho hf => simp [ho, hf, decodeS_ok]
  | X ho => simp [ho, decodeX_ok, show formatOf 0x50#8 = some .X from rfl]
  | Z ho hf => simp [ho, hf, decodeZ_ok, and_comm]
  | unknown hf => simp [hf]

/-- The fields the format check has read are the whole word. -/
theorem OpDecoding.encode_eq {w : Word} {r : Except Reject Instr} (h : OpDecoding w r) (hr : rsvField w = 0#8) {i : Instr}
    (hi : r = .ok i) : i.wellFormed = true ∧ encode i = some w := by
  have hp := packWord_fields w hr
  cases h with
  | M ho _ hw he =>
    obtain rfl := Except.ok.inj hi
    rw [he, ← ho, hp]
    exact ⟨hw _ _, rfl⟩
  | S ho _ hw he =>
    obtain ⟨h32, rfl⟩ := (decodeS_ok _ _ _).1 hi
    rw [he, ← ho, ← h32, hp]
    exact ⟨hw _, rfl⟩
  | X ho =>
    obtain ⟨h32, hk, rfl⟩ := (decodeX_ok _ _ _).1 hi
    rw [ho, h32] at hp
    exact ⟨decide_eq_true hk, congrArg some hp⟩
  | Z ho _ hw he =>
    obtain ⟨h16, h32, rfl⟩ := (decodeZ_ok _ _ _).1 hi
    rw [he, ← ho, ← h16, ← h32, hp]
    exact ⟨hw, rfl⟩
  | unknown => cases hi

/-- `Decode` accepts the legal words and no others (R307). -/
theorem legal_iff_decodeRequest {w : Word} : Legal w ↔ ∃ i, decodeRequest w = .ok i := by
  rw [(decodeOp_opDecoding w).legal_iff]
  unfold decodeRequest
  split <;> simp [*]

/-- Settles O2: legality by format, and the accepted operation's word put together from its fields. -/
theorem decodeAcceptsExactlyLegalWords : Obligations.DecodeAcceptsExactlyLegalWords := by
  unfold Obligations.DecodeAcceptsExactlyLegalWords
  refine ⟨fun _ => legal_iff_decodeRequest, fun w i hd => ⟨decodeRequest_space w i hd, ?_⟩⟩
  obtain ⟨hr, ho⟩ := decodeRequest_ok w i hd
  exact (decodeOp_opDecoding w).encode_eq hr ho

/-! ## Worked words and pseudo-operations -/

/-- Settles O3: each word is decoded by computation. -/
theorem workedEncodings : Obligations.WorkedEncodings := by
  unfold Obligations.WorkedEncodings
  exact ⟨rfl, rfl, rfl, rfl, rfl, rfl, rfl, rfl, rfl, rfl, rfl, rfl⟩

/-- Settles O5: each word of an expansion is the encoding of its operation. -/
theorem pseudoOperationsExpand : Obligations.PseudoOperationsExpand := by
  unfold Obligations.PseudoOperationsExpand
  have hread (k : BitVec 16) (hk : k.toNat ≤ 6) : decodeRequest (Machine.rdregWord k) = .ok (.rdreg k) :=
    decodeRequest_of_encode rfl (decide_eq_true hk) rfl
  have hmove (d : BitVec 16) (n : BitVec 32) : decodeRequest (packWord 0x01#8 d n) = .ok (.qmove d n) :=
    decodeRequest_of_encode rfl rfl rfl
  have hdown (m : BitVec 16) : decodeRequest (packWord 0x03#8 m 0#32) = .ok (.qcutdn m) :=
    decodeRequest_of_encode rfl rfl rfl
  have hup (m : BitVec 16) : decodeRequest (packWord 0x02#8 m 0#32) = .ok (.qcutup m) :=
    decodeRequest_of_encode rfl rfl rfl
  refine ⟨?_, fun d n m => ?_⟩
  · simp [Machine.statusWords, hread, Except.toOption]
  · simp [Machine.qcutWords, hmove, hdown, hup, Except.toOption]

end Sys2Proof
end

section
/-! A request in a step: the operation it decodes to, or the answer to an illegal word (R300, R308), and the faults a step can
record (R606, R703): O6, O7, O17. -/

namespace Sys2Proof.Machine

/-- FG, Ready and named, takes the HOST's next word (R300, R712). -/
theorem step_takes_request {s : State} {w : Word} {ws : List Word} (hv : s.cfg.Valid) (hf : s.faults = [])
    (hn : nextAgent s = .fg) (hm : s.fgMode = .ready) (hr : s.requests = w :: ws) :
    step s = performRequest w { advanceSchedule s with requests := ws } := by
  have ha : agentAction .fg s = .takeRequest w := by simp [agentAction, fgAction, hm, hr]
  have hd : dropRequest (advanceSchedule s) = { advanceSchedule s with requests := ws } := by
    simp [dropRequest, hr]
  rw [step_of_valid s hv hf, hn, ha, ← hd]
  rfl

theorem performRequest_ok {w : Word} {i : Instr} (hd : decodeRequest w = .ok i) (s : State) :
    performRequest w s = exec i s := by
  unfold performRequest; rw [hd]

theorem performRequest_illegal {w : Word} (hl : ¬ Legal w) (s : State) : performRequest w s = illegalRequest s := by
  unfold performRequest
  split
  · next i hd => exact absurd (legal_iff_decodeRequest.2 ⟨i, hd⟩) hl
  · rfl

/-- Settles O6: FG's step is the taken request's, and the scheduler takes its list or, where that is used up, the next block. -/
theorem stepPerformsDecodedRequest : Obligations.StepPerformsDecodedRequest := by
  unfold Obligations.StepPerformsDecodedRequest
  refine ⟨fun s w ws i hv hf hn hm hr hd => ?_, fun s a rest hs => ?_, fun s hs => ?_⟩
  · rw [step_takes_request hv hf hn hm hr, performRequest_ok hd]
  · simp [nextAgent, advanceSchedule, upcoming, hs]
  · simp [nextAgent, advanceSchedule, upcoming, hs]

/-- Settles O7: the taken word is answered as illegal; word 0 has no listed OP. -/
theorem illegalRequestChangesNothing : Obligations.IllegalRequestChangesNothing := by
  unfold Obligations.IllegalRequestChangesNothing
  refine ⟨fun s w ws hv hf hn hm hr hl => ?_, fun h => ?_, fun w => ?_⟩
  · rw [step_takes_request hv hf hn hm hr, performRequest_illegal hl]
    rfl
  · obtain ⟨i, hd⟩ := legal_iff_decodeRequest.1 h
    cases hd
  · exact (em (Legal w)).imp_left legal_iff_decodeRequest.1

/-! ## Faults -/

/-- An operation on a state that meets the invariant finds no entry of unknown kind, so START's overflow is its one fault (R312,
R415, R606). -/
theorem FgEffect.faults {i : Instr} {s t : State} (he : FgEffect i s t) (h : s.Inv) (hf : s.faults = []) :
    t.faults = [] ∨ t.faults = [.positionOverflow] := by
  cases he with
  | overflow => exact .inr (by simp [raiseFault, prepared, hf])
  | badEntry _ hm _ _ hk => exact absurd hk (head_known h hm)
  | _ => exact .inl (by simp [prepared, pushed, hf])

/-- Settles O17: a foreground operation alone records a fault. -/
theorem badQueueEntryUnreachable : Obligations.BadQueueEntryUnreachable := by
  unfold Obligations.BadQueueEntryUnreachable
  intro s t h hst
  obtain ⟨-, hf, ⟨i, he⟩ | ⟨-, rfl⟩ | he | rfl⟩ := step_effect hst
  · exact he.faults (inv_dropRequest (inv_advanceSchedule h)) hf
  · exact .inl hf
  · obtain ⟨-, -, -, hfaults, -⟩ := he.frame
    exact .inl (hfaults.trans hf)
  · exact .inl hf

end Sys2Proof.Machine
end

section
/-! START, STOP and ISACTIVE (R410 to R419): the half-period of a move, START's four ways as whole next states, the soft stop. -/

namespace Sys2Proof.Machine

/-! ## The half-period of a move -/

/-- Settles O39: the general bounds, and the two corner cases of R416, in which the quotient is 0. -/
theorem halfPeriodOfMoveBounds : Obligations.HalfPeriodOfMoveBounds := by
  unfold Obligations.HalfPeriodOfMoveBounds
  intro c d δ hc h0
  obtain ⟨hmin, hmax⟩ := halfPeriodFor_bounds hc d h0
  refine ⟨rfl, hmin, hmax, by simp [halfPeriodFor], ?_⟩
  obtain ⟨⟨-, ht⟩, -⟩ := hc
  have hprod : d.toNat * c.ticksPerMs ≤ 65535 * 65537 := Nat.mul_le_mul (by omega) ht
  have hquot : d.toNat * c.ticksPerMs / (2 * (-(2 ^ 31) : Int).natAbs) = 0 := Nat.div_eq_of_lt (by omega)
  unfold halfPeriodFor
  rw [hquot, Nat.zero_max]

/-! ## START's body and its two responses -/

section
variable {s : State} {d : BitVec 16} {n : BitVec 32}

theorem startBody_active (ha : s.active = true) :
    startBody d n s = (emit (.log .moveRejected) s, some (.moveRejected, 0#32)) := by
  simp [startBody, ha]

theorem startBody_zero (ha : s.active = false) : startBody d 0#32 s = (s, some (.ok, 0#32)) := by
  simp [startBody, ha, s32]

theorem startBody_accepted (ha : s.active = false) (h0 : s32 n ≠ 0) (hlo : -(2 ^ 31) ≤ s32 s.position + s32 n)
    (hhi : s32 s.position + s32 n ≤ 2 ^ 31 - 1) :
    startBody d n s = (acceptMove d (s32 n) (s32 s.position + s32 n) s, some (.ok, 0#32)) := by
  have hfit : fitsS32 (s32 s.position + s32 n) = true := decide_eq_true ⟨hlo, hhi⟩
  simp [startBody, ha, h0, hfit]

theorem startBody_overflow (ha : s.active = false) (h0 : s32 n ≠ 0)
    (hout : s32 s.position + s32 n < -(2 ^ 31) ∨ 2 ^ 31 - 1 < s32 s.position + s32 n) :
    startBody d n s = (raiseFault .positionOverflow s, none) := by
  have hfit : fitsS32 (s32 s.position + s32 n) = false := decide_eq_false (by omega)
  simp [startBody, ha, h0, hfit]

/-- START gives the body's response, E_MOVE the held one in its place (R415, R602). -/
theorem exec_start_eMove_of_response {t : State} {c : ResultCode} {v : BitVec 32}
    (h : startBody d n s = (t, some (c, v))) :
    exec (.start d n) s = .next (respond c v t) ∧ exec (.eMove d n) s = .next (respondWord t.held t) := by
  constructor
  · show execStart d n s = _
    unfold execStart; rw [h]; rfl
  · show execEMove d n s = _
    unfold execEMove; rw [h]; rfl

/-- Neither responds after a fault (R703). -/
theorem exec_start_eMove_of_fault {t : State} (h : startBody d n s = (t, none)) :
    exec (.start d n) s = .next t ∧ exec (.eMove d n) s = .next t := by
  constructor
  · show execStart d n s = _
    unfold execStart; rw [h]; rfl
  · show execEMove d n s = _
    unfold execEMove; rw [h]; rfl

/-- An accepted move, as START and as E_MOVE (R415, R602). -/
theorem exec_start_eMove_accepted (ha : s.active = false) (h0 : s32 n ≠ 0) (hlo : -(2 ^ 31) ≤ s32 s.position + s32 n)
    (hhi : s32 s.position + s32 n ≤ 2 ^ 31 - 1) :
    let moved := acceptMove d (s32 n) (s32 s.position + s32 n) s
    exec (.start d n) s = .next (respondWord 0x0000000000000000#64 moved) ∧
    exec (.eMove d n) s = .next (respondWord s.held moved) := by
  have h := exec_start_eMove_of_response (startBody_accepted (d := d) ha h0 hlo hhi)
  rw [acceptMove_held] at h
  exact h

end

/-- Settles O34: the first way of START's body. -/
theorem startRejectedWhileActive : Obligations.StartRejectedWhileActive := by
  unfold Obligations.StartRejectedWhileActive
  exact fun _ _ _ ha => (exec_start_eMove_of_response (startBody_active ha)).1

/-- Settles O35: the second way of START's body. -/
theorem startOfZeroStepsIsNoMove : Obligations.StartOfZeroStepsIsNoMove := by
  unfold Obligations.StartOfZeroStepsIsNoMove
  exact fun _ _ ha => exec_start_eMove_of_response (startBody_zero ha)

/-- Settles O36: the last way of START's body, and the stop on the recorded fault. -/
theorem positionOverflowIsAStickyFault : Obligations.PositionOverflowIsAStickyFault := by
  unfold Obligations.PositionOverflowIsAStickyFault
  intro s d n ha hf h0 hout faulted
  have hraise : raiseFault .positionOverflow s = faulted := by simp [raiseFault, hf, faulted]
  obtain ⟨hstart, hmove⟩ := exec_start_eMove_of_fault (startBody_overflow (d := d) ha h0 hout)
  rw [hraise] at hstart hmove
  exact ⟨hstart, hmove, fun hv => step_of_fault faulted .positionOverflow [] hv rfl⟩

/-! ## An accepted move -/

theorem decide_directionOf_forward (δ : Int) : decide (directionOf δ = .forward) = decide (0 < δ) :=
  decide_eq_decide.2 (directionOf_forward δ)

/-- Settles O37: the accepted move without ramp shaping, written out. -/
theorem startWithoutRamp : Obligations.StartWithoutRamp := by
  unfold Obligations.StartWithoutRamp
  intro s d n ha hr h0 hlo hhi hp started
  have hstarted (r : Word) :
      respondWord r (acceptMove d (s32 n) (s32 s.position + s32 n) s) = started r := by
    rw [acceptMove_plain hr, u32_natCast]
    unfold setDirection
    rw [decide_directionOf_forward]
    rfl
  rw [← hstarted, ← hstarted]
  exact exec_start_eMove_accepted ha h0 hlo hhi

theorem rampTableRead_zero (c : Config) : rampTableRead c 0 = c.rampTable.headD 0#16 := by
  unfold rampTableRead
  cases c.rampTable <;> simp

/-- The ramp starts at cruise speed exactly when its own start is not slower (R481). -/
theorem u32_max_eq_iff {a b : Nat} (ha : a ≤ 2 ^ 31 - 1) (hb : b ≤ 2 ^ 31 - 1) :
    u32 ((max a b : Nat) : Int) = u32 (b : Int) ↔ a ≤ b := by
  rw [← BitVec.toNat_inj, toNat_u32_natCast (max_le ha hb), toNat_u32_natCast hb, max_eq_right_iff]

/-- The slowest half-period of a ramp whose cruise half-period fits its register (R481). -/
theorem rampSlowest_u32 (c : Config) {n : Nat} (h : n ≤ 2 ^ 31 - 1) :
    rampSlowest c (u32 n) = max c.rampStartHalfPeriod n := by
  rw [rampSlowest, toNat_u32_natCast h]

/-- `RampInit` with half-periods that fit their registers (R481). -/
theorem rampInit_eq {s : State} {n : Nat} (hstart : s.cfg.rampStartHalfPeriod ≤ 2 ^ 31 - 1) (hn : n ≤ 2 ^ 31 - 1) (δ : Int) :
    rampInit δ { s with targetHalfPeriod := u32 n } =
      { s with
        targetHalfPeriod := u32 n
        rampStartPosition := s.position
        rampIndex := 0
        rampIterCount := s.cfg.rampTable.headD 0#16
        rampPhase := .accel
        halfPeriod := u32 ((max s.cfg.rampStartHalfPeriod n : Nat) : Int)
        rampMidpoint := if s.cfg.rampStartHalfPeriod ≤ n then s.target else u32 (s32 s.position + δ.tdiv 2) } := by
  unfold rampInit
  dsimp only
  rw [rampSlowest_u32 _ hn, rampTableRead_zero, if_congr (u32_max_eq_iff hstart hn) rfl rfl]
  rfl

/-- Settles O38: the accepted move with ramp shaping, written out; R411's bound keeps its half-periods in their registers. -/
theorem startWithRamp : Obligations.StartWithRamp := by
  unfold Obligations.StartWithRamp
  intro s d n hv ha hr h0 hlo hhi thp started
  obtain ⟨-, hthp⟩ := halfPeriodFor_bounds hv d h0
  obtain ⟨-, -, -, -, -, -, -, hstart⟩ := hv
  have hinit := rampInit_eq (s := setDirection (directionOf (s32 n)) { s with target := u32 (s32 s.position + s32 n) })
    hstart hthp (s32 n)
  have hstarted (r : Word) :
      respondWord r (acceptMove d (s32 n) (s32 s.position + s32 n) s) = started r := by
    rw [acceptMove_ramped hr]
    refine (congrArg (fun x : State => respondWord r { x with pulsePhase := false, active := true }) hinit).trans ?_
    unfold setDirection
    simp only [decide_directionOf_forward, u32_natCast]
    rfl
  rw [← hstarted, ← hstarted]
  exact exec_start_eMove_accepted ha h0 hlo hhi

/-! ## STOP and ISACTIVE -/

/-- STOP is the soft stop and OK (R417). -/
theorem exec_stop (s : State) : exec .stop s = .next (respond .ok 0#32 (softStop s)) := rfl

/-- The soft stop writes `target` alone (R417). -/
theorem softStop_eq (s : State) : softStop s = { s with target := if s.active then s.position else s.target } := by
  unfold softStop
  split <;> rfl

/-- A Boolean's response word (R303, R320). -/
theorem responseWord_boolValue (b : Bool) :
    responseWord .ok (boolValue b) = if b then 0x0000000000000001#64 else 0x0000000000000000#64 := by
  cases b <;> rfl

/-- Settles O40: the two words are decoded by computation, and each operation is its response to one state. -/
theorem stopAndIsactive : Obligations.StopAndIsactive := by
  unfold Obligations.StopAndIsactive
  refine ⟨rfl, rfl, fun s => ⟨?_, ?_⟩⟩
  · rw [exec_stop, softStop_eq]
    rfl
  · rw [← responseWord_boolValue]
    rfl

end Sys2Proof.Machine
end

section
/-! The interrupt handler (R420 to R430): one equation for each of its six ways, with the deadline it re-arms for, and from them the
next states written out. -/

namespace Sys2Proof.Machine

/-- Settles O8: the ISR's action is TIMER_EVENT while it is pending, and TICK's while it is not. -/
theorem stepRunsPendingInterrupt : Obligations.StepRunsPendingInterrupt := by
  unfold Obligations.StepRunsPendingInterrupt
  intro s hv hf hn
  rw [step_of_valid s hv hf, hn]
  exact ⟨fun hi => by rw [agentAction, if_pos hi]; rfl, fun hi => by rw [agentAction, if_neg (by simp [hi])]; rfl⟩

/-! ## The handler's six ways -/

/-- R423's test reads the deadline's distance. -/
theorem deadlinePassed_iff (s : State) : deadlinePassed s = true ↔ 0 ≤ (s.now - s.nextEventTime).toInt :=
  decide_eq_true_iff

/-- The return of R429 after an accumulated deadline (R424, R425). -/
theorem armTimer_returnRemaining_accumulateDeadline (s : State) :
    armTimer (returnRemaining (accumulateDeadline s)).2 (returnRemaining (accumulateDeadline s)).1 =
      rearm (nextDeadline (s.nextEventTime + s.halfPeriod) s.now) s := by
  rw [armTimer_returnRemaining, rearm_accumulateDeadline]
  rfl

/-- The return of IDLE_INTERVAL after a completed move (R427). -/
theorem armTimer_completeMove (s : State) :
    armTimer (completeMove s).2 (completeMove s).1 =
      rearm (s.now + u32 s.cfg.idleInterval) (emit .complete (atRest s)) := rfl

/-- `Disarm` lowers a pending pulse (R428). -/
theorem ite_lowerStep (s : State) : (if s.pulsePhase then lowerStep s else s) = lowered s := by
  split
  · next hh => rw [lowered_of_high hh]
  · next hl => rw [lowered_of_low (by simpa using hl)]

/-- A running ramp takes its advance at a falling edge; without a ramp nothing is advanced (R425). -/
def rampAdvanced (s : State) : State := if s.rampPhase = .none then s else rampAdvance s

section
variable {s : State}

/-- TIMER_EVENT by what its body answers (R420). -/
theorem handler_of_body {r : State × Int} (h : handlerBody (enterInterrupt s) = r) :
    exec .timerEvent s = .next (armTimer r.2 r.1) := by
  rw [execTimerEvent_eq, h]

/-- No move runs (R421). -/
theorem handler_idle (ha : s.active = false) :
    exec .timerEvent s = .next (rearm (s.now + u32 s.cfg.idleInterval) (enterInterrupt s)) :=
  handler_of_body (r := returnIdle (enterInterrupt s)) (by simp [handlerBody, ha])

/-- A move with half-period 0 is disarmed (R422, R428). -/
theorem handler_disarms (ha : s.active = true) (h0 : s.halfPeriod = 0#32) :
    exec .timerEvent s =
      .next (rearm (s.now + u32 s.cfg.idleInterval) (emit .disarmed (atRest (lowered (enterInterrupt s))))) := by
  rw [handler_of_body (r := disarm (enterInterrupt s)) (by simp [handlerBody, ha, h0])]
  unfold disarm
  rw [ite_lowerStep]
  rfl

variable (ha : s.active = true) (h0 : s.halfPeriod ≠ 0#32)
include ha h0

/-- Case a: a pending pulse whose deadline has passed falls (R423). -/
theorem handlerBody_falls (hh : s.pulsePhase = true) (hd : 0 ≤ (s.now - s.nextEventTime).toInt) :
    handlerBody (enterInterrupt s) = fallingEdge (enterInterrupt s) := by
  have hpassed : deadlinePassed (enterInterrupt s) = true := (deadlinePassed_iff s).2 hd
  simp [handlerBody, ha, h0, hh, hpassed]

/-- Cases a and c at the target: the move is complete (R427). -/
theorem handler_completes (hp : s.position = s.target)
    (hd : s.pulsePhase = true → 0 ≤ (s.now - s.nextEventTime).toInt) :
    exec .timerEvent s =
      .next (rearm (s.now + u32 s.cfg.idleInterval) (emit .complete (atRest (lowered (enterInterrupt s))))) := by
  cases hh : s.pulsePhase
  · have hb : handlerBody (enterInterrupt s) = completeMove (enterInterrupt s) := by simp [handlerBody, ha, h0, hh, hp]
    rw [handler_of_body hb, armTimer_completeMove, lowered_of_low (s := enterInterrupt s) hh]
    rfl
  · have hb : fallingEdge (enterInterrupt s) = completeMove (lowerStep (enterInterrupt s)) := by simp [fallingEdge, hp]
    rw [handler_of_body ((handlerBody_falls ha h0 hh (hd hh)).trans hb), armTimer_completeMove,
      lowered_of_high (s := enterInterrupt s) hh]
    rfl

/-- Case a short of the target: the falling edge with its ramp advance (R425). -/
theorem handler_falls (hh : s.pulsePhase = true) (hd : 0 ≤ (s.now - s.nextEventTime).toInt) (hp : s.position ≠ s.target) :
    let u := rampAdvanced (lowerStep (enterInterrupt s))
    exec .timerEvent s = .next (rearm (nextDeadline (u.nextEventTime + u.halfPeriod) u.now) u) := by
  intro u
  have hb : fallingEdge (enterInterrupt s) = returnRemaining (accumulateDeadline u) := if_neg hp
  rw [handler_of_body ((handlerBody_falls ha h0 hh hd).trans hb), armTimer_returnRemaining_accumulateDeadline]

/-- Case b: the rising edge (R424). -/
theorem handler_rises (hl : s.pulsePhase = false) (hp : s.position ≠ s.target) :
    exec .timerEvent s =
      .next (rearm (nextDeadline (s.nextEventTime + s.halfPeriod) s.now) (risingEdge (enterInterrupt s))) := by
  have hb : handlerBody (enterInterrupt s) = returnRemaining (risingEdge (enterInterrupt s)) := by
    simp [handlerBody, ha, h0, hl, hp]
  rw [handler_of_body hb, armTimer_returnRemaining]
  rfl

/-- Case d: the handler waits for the rest of a pending pulse (R426). -/
theorem handler_waits (hh : s.pulsePhase = true) (hd : (s.now - s.nextEventTime).toInt < 0) :
    exec .timerEvent s = .next (rearm (nextDeadline s.nextEventTime s.now) (enterInterrupt s)) := by
  have hpassed : deadlinePassed (enterInterrupt s) = false := decide_eq_false (not_le.2 hd)
  have hb : handlerBody (enterInterrupt s) = returnRemaining (enterInterrupt s) := by
    simp [handlerBody, ha, h0, hh, hpassed]
  rw [handler_of_body hb, armTimer_returnRemaining]
  rfl

end

/-! ## The next states written out -/

/-- Settles O42, from the idle way. -/
theorem handlerIdleRearms : Obligations.HandlerIdleRearms := by
  unfold Obligations.HandlerIdleRearms
  intro s ha
  rw [handler_idle ha, u32_natCast]
  rfl

/-- The lowered pulse as R425 and R428 write it. -/
theorem lowered_eq (s : State) :
    lowered s = { s with
      stepOut := if s.pulsePhase then false else s.stepOut
      pulsePhase := false
      trace := s.trace ++ if s.pulsePhase then [{ event := .stepFall, time := s.now }] else [] } := by
  unfold lowered
  cases s.pulsePhase <;> simp

/-- Settles O43, from the disarming way. -/
theorem handlerDisarmsOnZeroHalfPeriod : Obligations.HandlerDisarmsOnZeroHalfPeriod := by
  unfold Obligations.HandlerDisarmsOnZeroHalfPeriod
  intro s ha h0
  rw [handler_disarms ha h0, u32_natCast, lowered_eq]
  rfl

/-- Settles O46, from the completing way. -/
theorem handlerCompletesMove : Obligations.HandlerCompletesMove := by
  unfold Obligations.HandlerCompletesMove
  intro s ha h0 hp hd
  rw [handler_completes ha h0 hp hd, u32_natCast, lowered_eq]
  rfl

/-- Settles O44, from the rising way. -/
theorem handlerRisingEdge : Obligations.HandlerRisingEdge := by
  unfold Obligations.HandlerRisingEdge
  intro s ha h0 hl hp
  rw [handler_rises ha h0 hl hp]
  unfold risingEdge stepToward
  rfl

/-- Settles O47, from the waiting way. -/
theorem handlerWaitsForPendingPulse : Obligations.HandlerWaitsForPendingPulse := by
  unfold Obligations.HandlerWaitsForPendingPulse
  exact fun _ ha h0 hh hd => handler_waits ha h0 hh hd

/-! The ramp advance reads neither the interrupt nor the pulse: it commutes with interrupt entry and the lowered pulse. -/

section
variable (s : State)

/-- Interrupt entry and the falling edge of R425. -/
def lowerAtEntry : State := lowerStep (enterInterrupt s)

theorem rampTransition_lowerAtEntry : rampTransition (lowerAtEntry s) = lowerAtEntry (rampTransition s) := by
  unfold rampTransition; rw [apply_ite lowerAtEntry]; rfl

theorem rampAdjustAndReload_lowerAtEntry :
    rampAdjustAndReload (lowerAtEntry s) = lowerAtEntry (rampAdjustAndReload s) := by
  have haccel : rampAccelAdjust (lowerAtEntry s) = lowerAtEntry (rampAccelAdjust s) := by
    unfold rampAccelAdjust; rw [apply_ite lowerAtEntry]; rfl
  have hdecel : rampDecelAdjust (lowerAtEntry s) = lowerAtEntry (rampDecelAdjust s) := by
    unfold rampDecelAdjust; rw [apply_ite lowerAtEntry]; rfl
  have hadjust : (if (lowerAtEntry s).rampPhase = .accel then rampAccelAdjust (lowerAtEntry s)
      else rampDecelAdjust (lowerAtEntry s)) =
      lowerAtEntry (if s.rampPhase = .accel then rampAccelAdjust s else rampDecelAdjust s) := by
    rw [haccel, hdecel, apply_ite lowerAtEntry]; rfl
  unfold rampAdjustAndReload
  rw [hadjust]
  rfl

theorem rampCountdown_lowerAtEntry : rampCountdown (lowerAtEntry s) = lowerAtEntry (rampCountdown s) := by
  have hr := rampAdjustAndReload_lowerAtEntry { s with rampIterCount := oneRepeatLess s.rampIterCount }
  unfold rampCountdown
  dsimp only
  rw [apply_ite lowerAtEntry, ← hr]
  rfl

theorem rampAdvanced_lowerAtEntry : rampAdvanced (lowerAtEntry s) = lowerAtEntry (rampAdvanced s) := by
  unfold rampAdvanced rampAdvance
  rw [rampTransition_lowerAtEntry, rampCountdown_lowerAtEntry, apply_ite lowerAtEntry]
  rfl

/-- The ramp advance writes five registers (R488). -/
theorem rampAdvanced_eq :
    rampAdvanced s = { s with
      halfPeriod := (rampAdvanced s).halfPeriod
      rampPhase := (rampAdvanced s).rampPhase
      rampIndex := (rampAdvanced s).rampIndex
      rampIterCount := (rampAdvanced s).rampIterCount
      rampMidpoint := (rampAdvanced s).rampMidpoint } := by
  unfold rampAdvanced
  split
  · rfl
  · ext1 <;> simp

end

/-- Settles O45: the falling way, with the ramp advance of the state before the interrupt. -/
theorem handlerFallingEdge : Obligations.HandlerFallingEdge := by
  unfold Obligations.HandlerFallingEdge
  intro s ha h0 hh hd hp r
  have hr : rampAdvanced (lowerStep (enterInterrupt s)) = lowerStep (enterInterrupt r) := rampAdvanced_lowerAtEntry s
  rw [handler_falls ha h0 hh hd hp, hr, show r = _ from rampAdvanced_eq s]
  rfl

/-- Settles O41: the soft stop brings the target to the position, where the handler completes the move. -/
theorem noStepAfterStop : Obligations.NoStepAfterStop := by
  unfold Obligations.NoStepAfterStop
  intro s n ha h0 hd
  have hstop : exec .stop s = .next (respond .ok 0#32 { s with target := s.position }) := by
    rw [exec_stop, softStop_eq, if_pos ha]
  refine ⟨_, _, hstop, handler_completes ha h0 rfl hd, ?_⟩
  cases s.pulsePhase <;> simp [rearm, atRest, lowered, respond]

end Sys2Proof.Machine
end

section
/-! An unstopped move pulse by pulse: the distance to the target, one pulse at any two ticks, the move at any latency, and its edge
times without latency (R432, R433). -/

namespace Sys2Proof.Machine

/-! ## The distance to the target -/

/-- How many microsteps the axis stands from its target (R432). -/
def stepsLeft (s : State) : Nat := (s32 s.target - s32 s.position).natAbs

theorem stepsLeft_eq_zero {s : State} : stepsLeft s = 0 ↔ s.position = s.target := by
  unfold stepsLeft
  refine ⟨fun h => BitVec.eq_of_toInt_eq ?_, fun h => by simp [h]⟩
  have heq : s32 s.position = s32 s.target := by omega
  exact heq

theorem position_ne_target {s : State} {n : Nat} (h : stepsLeft s = n + 1) : s.position ≠ s.target :=
  fun e => by simp [stepsLeft_eq_zero.2 e] at h

/-! ## The ramp advance -/

section
variable (s : State)

@[simp] theorem rampAdvanced_cfg : (rampAdvanced s).cfg = s.cfg := by
  unfold rampAdvanced; split <;> simp
@[simp] theorem rampAdvanced_position : (rampAdvanced s).position = s.position := by
  unfold rampAdvanced; split <;> simp
@[simp] theorem rampAdvanced_target : (rampAdvanced s).target = s.target := by
  unfold rampAdvanced; split <;> simp
@[simp] theorem rampAdvanced_pulsePhase : (rampAdvanced s).pulsePhase = s.pulsePhase := by
  unfold rampAdvanced; split <;> simp
@[simp] theorem rampAdvanced_active : (rampAdvanced s).active = s.active := by
  unfold rampAdvanced; split <;> simp
@[simp] theorem rampAdvanced_targetHalfPeriod : (rampAdvanced s).targetHalfPeriod = s.targetHalfPeriod := by
  unfold rampAdvanced; split <;> simp
@[simp] theorem rampAdvanced_trace : (rampAdvanced s).trace = s.trace := by
  unfold rampAdvanced; split <;> simp

end

/-- Neither adjustment reaches 0: the one stops at the cruise half-period, the other only slows down, below 2^32 (R485, R486). -/
theorem rampAdjustAndReload_halfPeriod_ne_zero {s : State} (hv : s.cfg.Valid) (ht : s.targetHalfPeriod ≠ 0#32)
    (h0 : s.halfPeriod ≠ 0#32) : (rampAdjustAndReload s).halfPeriod ≠ 0#32 := by
  show (if s.rampPhase = .accel then rampAccelAdjust s else rampDecelAdjust s).halfPeriod ≠ 0#32
  unfold rampAccelAdjust rampDecelAdjust
  split_ifs with hphase hfaster hslower
  · show s.halfPeriod - 1#32 ≠ 0#32
    bv_omega
  · exact h0
  · obtain ⟨-, -, -, -, -, -, -, hstart⟩ := hv
    have hmax : s.halfPeriod.toNat < 2 ^ 32 - 1 := by
      unfold rampSlowest at hslower
      omega
    show s.halfPeriod + 1#32 ≠ 0#32
    bv_omega
  · exact h0

theorem rampAdvanced_halfPeriod_ne_zero {s : State} (hv : s.cfg.Valid) (ht : s.targetHalfPeriod ≠ 0#32)
    (h0 : s.halfPeriod ≠ 0#32) : (rampAdvanced s).halfPeriod ≠ 0#32 := by
  have h0' : (rampTransition s).halfPeriod ≠ 0#32 := by rwa [rampTransition_halfPeriod]
  unfold rampAdvanced rampAdvance
  split
  · exact h0
  · rcases rampCountdown_spec (rampTransition s) with ⟨-, e⟩ | ⟨-, e⟩ <;> rw [e]
    · exact h0'
    · exact rampAdjustAndReload_halfPeriod_ne_zero (by simpa using hv) (by simpa using ht) h0'

/-! ## One pulse, at any two ticks -/

/-- After a rising edge at tick `a` (R424, R429). -/
def raised (a : Tick) (s : State) : State :=
  rearm (nextDeadline (s.nextEventTime + s.halfPeriod) a) (risingEdge (enterInterrupt { s with now := a }))

section
variable (a : Tick) (s : State)

@[simp] theorem raised_cfg : (raised a s).cfg = s.cfg := by simp [raised, rearm]
@[simp] theorem raised_active : (raised a s).active = s.active := by simp [raised, rearm]
@[simp] theorem raised_pulsePhase : (raised a s).pulsePhase = true := by simp [raised, rearm]
@[simp] theorem raised_halfPeriod : (raised a s).halfPeriod = s.halfPeriod := by simp [raised, rearm]
@[simp] theorem raised_targetHalfPeriod : (raised a s).targetHalfPeriod = s.targetHalfPeriod := by simp [raised, rearm]
@[simp] theorem raised_rampPhase : (raised a s).rampPhase = s.rampPhase := by simp [raised, rearm]
@[simp] theorem raised_target : (raised a s).target = s.target := by simp [raised, rearm]
@[simp] theorem raised_position : (raised a s).position = stepToward s.position s.target := by simp [raised, rearm]
@[simp] theorem raised_nextEventTime :
    (raised a s).nextEventTime = nextDeadline (s.nextEventTime + s.halfPeriod) a := by simp [raised, rearm]
@[simp] theorem raised_trace : (raised a s).trace = s.trace ++ [{ event := .stepRise, time := a }] := by
  simp [raised, rearm]

end

/-- A rising edge leaves one step less (R424). -/
theorem stepsLeft_raised {s : State} {n : Nat} (h : stepsLeft s = n + 1) (a : Tick) : stepsLeft (raised a s) = n := by
  have hstep := s32_stepToward (position_ne_target h)
  unfold stepsLeft at h ⊢
  rw [raised_position, raised_target]
  omega

/-- After a falling edge short of the target at tick `b`, with its ramp advance (R425, R429). -/
def fallen (b : Tick) (s : State) : State :=
  let u := rampAdvanced (lowerStep (enterInterrupt { s with now := b }))
  rearm (nextDeadline (u.nextEventTime + u.halfPeriod) u.now) u

section
variable (b : Tick) (s : State)

@[simp] theorem fallen_cfg : (fallen b s).cfg = s.cfg := by simp [fallen, rearm]
@[simp] theorem fallen_active : (fallen b s).active = s.active := by simp [fallen, rearm]
@[simp] theorem fallen_pulsePhase : (fallen b s).pulsePhase = false := by simp [fallen, rearm]
@[simp] theorem fallen_targetHalfPeriod : (fallen b s).targetHalfPeriod = s.targetHalfPeriod := by simp [fallen, rearm]
@[simp] theorem fallen_target : (fallen b s).target = s.target := by simp [fallen, rearm]
@[simp] theorem fallen_position : (fallen b s).position = s.position := by simp [fallen, rearm]
@[simp] theorem fallen_trace : (fallen b s).trace = s.trace ++ [{ event := .stepFall, time := b }] := by
  simp [fallen, rearm]

end

/-- The ramp advance leaves a half-period (R485, R486). -/
theorem fallen_halfPeriod_ne_zero {s : State} (hv : s.cfg.Valid) (ht : s.targetHalfPeriod ≠ 0#32)
    (h0 : s.halfPeriod ≠ 0#32) (b : Tick) : (fallen b s).halfPeriod ≠ 0#32 :=
  rampAdvanced_halfPeriod_ne_zero (s := lowerStep (enterInterrupt { s with now := b })) hv ht h0

theorem stepsLeft_fallen (b : Tick) (s : State) : stepsLeft (fallen b s) = stepsLeft s := by simp [stepsLeft]

/-- After the last falling edge, at tick `b` (R427). -/
def finished (b : Tick) (s : State) : State :=
  rearm (b + u32 s.cfg.idleInterval) (emit .complete (atRest (lowered (enterInterrupt { s with now := b }))))

section
variable (b : Tick) (s : State)

@[simp] theorem finished_active : (finished b s).active = false := by simp [finished, rearm, atRest]
@[simp] theorem finished_target : (finished b s).target = s.target := by simp [finished, rearm, atRest, lowered]
@[simp] theorem finished_position : (finished b s).position = s.position := by simp [finished, rearm, atRest, lowered]

theorem finished_trace {s : State} (hh : s.pulsePhase = true) :
    (finished b s).trace = s.trace ++ [{ event := .stepFall, time := b }, { event := .complete, time := b }] := by
  simp [finished, rearm, atRest, lowered, hh]

end

/-- A move between two pulses. -/
structure State.BetweenPulses (s : State) : Prop where
  active : s.active = true
  low : s.pulsePhase = false
  halfPeriod : s.halfPeriod ≠ 0#32

section
variable {s : State} (hs : s.BetweenPulses)
include hs

/-- The handler's next invocation raises STEP (R423 case b). -/
theorem exec_raised {n : Nat} (hn : stepsLeft s = n + 1) (a : Tick) :
    exec .timerEvent { s with now := a } = .next (raised a s) :=
  handler_rises (s := { s with now := a }) hs.active hs.halfPeriod hs.low (position_ne_target hn)

/-- The one after it, past the deadline, lowers STEP (R423 case a). -/
theorem exec_fallen {n : Nat} (hn : stepsLeft s = n + 2) {a b : Tick} (hb : 0 ≤ (b - (raised a s).nextEventTime).toInt) :
    exec .timerEvent { raised a s with now := b } = .next (fallen b (raised a s)) := by
  have hp := position_ne_target (stepsLeft_raised hn a)
  exact handler_falls (s := { raised a s with now := b }) (by simp [hs.active]) (by simp [hs.halfPeriod]) (by simp) hb hp

/-- At the target it ends the move as well (R427). -/
theorem exec_finished (hn : stepsLeft s = 1) {a b : Tick} (hb : 0 ≤ (b - (raised a s).nextEventTime).toInt) :
    exec .timerEvent { raised a s with now := b } = .next (finished b (raised a s)) := by
  have hp := stepsLeft_eq_zero.1 (stepsLeft_raised hn a)
  exact handler_completes (s := { raised a s with now := b }) (by simp [hs.active]) (by simp [hs.halfPeriod]) hp fun _ => hb

end

/-! ## The move at any latency -/

theorem takeAt_cons {t : Tick} {s u : State} (h : exec .timerEvent { s with now := t } = .next u) (ts : List Tick) :
    takeAt (t :: ts) s = takeAt ts u := by
  rw [takeAt, h]

/-- What in-time ticks say of one pulse: its falling edge is past the deadline, and the ticks after it are in time. -/
theorem inTimeAt_pulse {s : State} (hs : s.BetweenPulses) {n : Nat} (hn : stepsLeft s = n + 1) {a b : Tick}
    {ts : List Tick} (h : InTimeAt (a :: b :: ts) s) :
    0 ≤ (b - (raised a s).nextEventTime).toInt ∧
    ∀ u, exec .timerEvent { raised a s with now := b } = .next u →
      InTimeAt ts u ∧ takeAt (a :: b :: ts) s = takeAt ts u := by
  have hrise := exec_raised hs hn a
  obtain ⟨hb, hrest⟩ := h.2 _ hrise
  exact ⟨hb (raised_pulsePhase a s), fun u hu => ⟨hrest u hu, by rw [takeAt_cons hrise, takeAt_cons hu]⟩⟩

/-- R432 pulse by pulse: the last pulse finishes the move, an earlier one leaves a move of one step less. -/
theorem takeAt_move {n : Nat} : ∀ {s : State} {ts : List Tick}, s.BetweenPulses → s.cfg.Valid →
    s.targetHalfPeriod ≠ 0#32 → stepsLeft s = n + 1 → ts.length = 2 * (n + 1) → InTimeAt ts s →
    ∃ t, takeAt ts s = .next t ∧ t.active = false ∧ t.position = s.target ∧ t.target = s.target ∧
      t.trace = s.trace ++ edgesAt ts ++ [{ event := .complete, time := ts.getLastD 0#32 }] := by
  induction n with
  | zero =>
    intro s ts hs hv ht hn hlen hin
    obtain ⟨a, b, rfl⟩ := List.length_eq_two.1 hlen
    obtain ⟨hb, hrest⟩ := inTimeAt_pulse hs hn hin
    obtain ⟨-, htake⟩ := hrest _ (exec_finished hs hn hb)
    have hp := stepsLeft_eq_zero.1 (stepsLeft_raised hn a)
    rw [raised_target] at hp
    refine ⟨_, htake, finished_active _ _, by rw [finished_position, hp], by simp, ?_⟩
    rw [finished_trace b (raised_pulsePhase a s)]
    simp [edgesAt]
  | succ n ih =>
    intro s ts hs hv ht hn hlen hin
    obtain ⟨a, b, c, ts, rfl⟩ : ∃ a b c ts', ts = a :: b :: c :: ts' := by
      match ts, hlen with
      | a :: b :: c :: ts', _ => exact ⟨a, b, c, ts', rfl⟩
    obtain ⟨hb, hrest⟩ := inTimeAt_pulse hs hn hin
    obtain ⟨hin', htake⟩ := hrest _ (exec_fallen hs hn hb)
    have hs' : (fallen b (raised a s)).BetweenPulses :=
      { active := by simp [hs.active]
        low := fallen_pulsePhase _ _
        halfPeriod := fallen_halfPeriod_ne_zero (by simpa using hv) (by simpa using ht) (by simpa using hs.halfPeriod) b }
    obtain ⟨t, he, hact, hpos, htgt, htrace⟩ := ih hs' (by simpa using hv) (by simpa using ht)
      (by rw [stepsLeft_fallen, stepsLeft_raised hn]) (by simp only [List.length_cons] at hlen ⊢; omega) hin'
    refine ⟨t, htake.trans he, hact, by simpa using hpos, by simpa using htgt, ?_⟩
    rw [htrace]
    simp [edgesAt]

/-! ## The edge times without latency -/

theorem takeDeadlines_succ {s u : State} (h : exec .timerEvent { s with now := s.nextEventTime } = .next u) (k : Nat) :
    takeDeadlines (k + 1) s = takeDeadlines k u := by
  rw [takeDeadlines, h]

/-- A half-period from a deadline taken on time is the next deadline (R429). -/
theorem nextDeadline_add {t hp : Tick} (h0 : hp ≠ 0#32) (hmax : hp.toNat ≤ 2 ^ 31 - 1) :
    nextDeadline (t + hp) t = t + hp := by
  have hpos : hp.toNat ≠ 0 := fun h => h0 (BitVec.eq_of_toNat_eq h)
  have hdist : t + hp - t = hp := by rw [BitVec.add_comm, BitVec.add_sub_cancel]
  unfold nextDeadline
  rw [hdist, BitVec.toInt_eq_toNat_of_lt (by omega), if_pos (by omega)]

/-- Without a ramp a falling edge keeps the half-period, and accumulates it (R425). -/
theorem fallen_plain {s : State} (hr : s.rampPhase = .none) (b : Tick) :
    fallen b s = rearm (nextDeadline (s.nextEventTime + s.halfPeriod) b) (lowerStep (enterInterrupt { s with now := b })) := by
  have hplain : rampAdvanced (lowerStep (enterInterrupt { s with now := b })) =
      lowerStep (enterInterrupt { s with now := b }) := if_pos hr
  unfold fallen
  rw [hplain]
  rfl

/-- An unramped move between two pulses, with a half-period in R138's bound. -/
structure State.PlainBetweenPulses (s : State) : Prop extends s.BetweenPulses where
  rampPhase : s.rampPhase = .none
  bound : s.halfPeriod.toNat ≤ 2 ^ 31 - 1

/-- The state after a pulse whose two edges are taken on time. -/
def pulsed (s : State) : State := fallen (s.nextEventTime + s.halfPeriod) (raised s.nextEventTime s)

section
variable {s : State} (hs : s.PlainBetweenPulses)
include hs

theorem raised_deadline : (raised s.nextEventTime s).nextEventTime = s.nextEventTime + s.halfPeriod := by
  rw [raised_nextEventTime, nextDeadline_add hs.halfPeriod hs.bound]

theorem pulsed_eq :
    pulsed s = rearm (s.nextEventTime + s.halfPeriod + s.halfPeriod)
      (lowerStep (enterInterrupt { raised s.nextEventTime s with now := s.nextEventTime + s.halfPeriod })) := by
  have hnext : nextDeadline ((raised s.nextEventTime s).nextEventTime + (raised s.nextEventTime s).halfPeriod)
      (s.nextEventTime + s.halfPeriod) = s.nextEventTime + s.halfPeriod + s.halfPeriod := by
    rw [raised_deadline hs, raised_halfPeriod, nextDeadline_add hs.halfPeriod hs.bound]
  unfold pulsed
  rw [fallen_plain (by simp [hs.rampPhase]), hnext]

theorem pulsed_nextEventTime : (pulsed s).nextEventTime = s.nextEventTime + s.halfPeriod + s.halfPeriod := by
  rw [pulsed_eq hs]
  rfl

theorem pulsed_halfPeriod : (pulsed s).halfPeriod = s.halfPeriod := by
  rw [pulsed_eq hs]
  simp [rearm]

theorem pulsed_rampPhase : (pulsed s).rampPhase = .none := by
  rw [pulsed_eq hs]
  simp [rearm, hs.rampPhase]

theorem pulsed_plainBetweenPulses : (pulsed s).PlainBetweenPulses where
  active := by simp [pulsed, hs.active]
  low := fallen_pulsePhase _ _
  halfPeriod := by rw [pulsed_halfPeriod hs]; exact hs.halfPeriod
  rampPhase := pulsed_rampPhase hs
  bound := by rw [pulsed_halfPeriod hs]; exact hs.bound

/-- Taken on time, the falling edge of a pulse is not early. -/
theorem raised_deadline_passed :
    0 ≤ (s.nextEventTime + s.halfPeriod - (raised s.nextEventTime s).nextEventTime).toInt := by
  rw [raised_deadline hs, BitVec.sub_self]
  decide

/-- Two deadlines taken are a rising edge and what follows it a half-period later. -/
theorem takeDeadlines_pulse {n : Nat} (hn : stepsLeft s = n + 1) {u : State}
    (hu : exec .timerEvent { raised s.nextEventTime s with now := s.nextEventTime + s.halfPeriod } = .next u) (k : Nat) :
    takeDeadlines (k + 2) s = takeDeadlines k u := by
  rw [takeDeadlines_succ (exec_raised hs.toBetweenPulses hn _)]
  rw [← raised_deadline hs] at hu
  exact takeDeadlines_succ hu k

end

/-- Two half-periods later every edge is one pulse earlier (R433). -/
theorem edgeTime_add_two (t hp : Tick) (k : Nat) :
    t + BitVec.ofNat 32 (k + 2) * hp = t + hp + hp + BitVec.ofNat 32 k * hp := by
  rw [BitVec.ofNat_add, show BitVec.ofNat 32 2 = (2 : Tick) from rfl]
  ring

/-- R433's edges begin with the first pulse; the others are those of a move that starts two half-periods later. -/
theorem moveEdges_succ (t hp : Tick) (n : Nat) :
    moveEdges t hp (n + 1) =
      { event := .stepRise, time := t } :: { event := .stepFall, time := t + hp } :: moveEdges (t + hp + hp) hp n := by
  have hrise (k : Nat) : 2 * (k + 1) = 2 * k + 2 := by ring
  have hfall (k : Nat) : 2 * k + 2 + 1 = 2 * k + 1 + 2 := by ring
  unfold moveEdges
  rw [List.range_succ_eq_map, List.flatMap_cons, List.flatMap_map]
  simp [hrise, hfall, edgeTime_add_two]

/-- R433 pulse by pulse. -/
theorem takeDeadlines_move {n : Nat} : ∀ {s : State}, s.PlainBetweenPulses → stepsLeft s = n + 1 →
    ∃ t, takeDeadlines (2 * (n + 1)) s = .next t ∧
      t.trace = s.trace ++ moveEdges s.nextEventTime s.halfPeriod (n + 1) ++
        [{ event := .complete, time := s.nextEventTime + BitVec.ofNat 32 (2 * n + 1) * s.halfPeriod }] := by
  induction n with
  | zero =>
    intro s hs hn
    have hexec := exec_finished hs.toBetweenPulses hn (raised_deadline_passed hs)
    refine ⟨_, takeDeadlines_pulse hs hn hexec 0, ?_⟩
    rw [finished_trace _ (raised_pulsePhase _ s), moveEdges_succ]
    simp [moveEdges]
  | succ n ih =>
    intro s hs hn
    have hexec := exec_fallen hs.toBetweenPulses hn (raised_deadline_passed hs)
    obtain ⟨t, ht, htrace⟩ := ih (pulsed_plainBetweenPulses hs) (by rw [pulsed, stepsLeft_fallen, stepsLeft_raised hn])
    refine ⟨t, (takeDeadlines_pulse hs hn hexec _).trans ht, ?_⟩
    have hlast : 2 * (n + 1) + 1 = 2 * n + 1 + 2 := by ring
    rw [htrace, pulsed_nextEventTime hs, pulsed_halfPeriod hs, moveEdges_succ s.nextEventTime, hlast, edgeTime_add_two]
    simp [pulsed]

/-- Settles O52, by induction on the pulses of the move. -/
theorem unrampedMoveEdgeTimes : Obligations.UnrampedMoveEdgeTimes := by
  unfold Obligations.UnrampedMoveEdgeTimes
  intro s n ha hl hr h0 hmax hn hn0
  obtain ⟨n, rfl⟩ := Nat.exists_eq_succ_of_ne_zero hn0
  exact takeDeadlines_move ⟨⟨ha, hl, h0⟩, hr, hmax⟩ hn.symm

end Sys2Proof.Machine
end

section
/-! The account of a move's edges over any run, whatever the agents do in between (R432, R821): O51. -/

namespace Sys2Proof.Machine

/-! ## What one step of a running move adds to the counts -/

/-- The pulses that have fallen, and the one that is pending: every StepRise is one of them (R424, R425). -/
def pulsesBegun (s : State) : Nat := countEvent .stepFall s.trace + s.pulsePhase.toNat

/-- While a move runs FG emits no edge and no Complete, and leaves the pulse and `active` (R206). -/
theorem FgEffect.pulses {i : Instr} {s t : State} (he : FgEffect i s t) (ha : s.active = true) :
    pulsesBegun t = pulsesBegun s ∧ countEvent .complete t.trace = countEvent .complete s.trace ∧ t.active = true := by
  obtain ⟨-, -, -, -, -, -, -, -, -, hpulse, hact⟩ := he.axis (.inr ha)
  obtain ⟨hfalls, hcompletes⟩ : countEvent .stepFall t.trace = countEvent .stepFall s.trace ∧
      countEvent .complete t.trace = countEvent .complete s.trace := by
    cases he <;> simp [prepared, pushed]
  unfold pulsesBegun
  exact ⟨by rw [hfalls, hpulse], hcompletes, hact.trans ha⟩

/-- The handler begins one pulse with each StepRise (R424, R425). -/
theorem HandlerEffect.pulsesBegun {s t : State} (he : HandlerEffect s t) :
    pulsesBegun t + countEvent .stepRise s.trace = pulsesBegun s + countEvent .stepRise t.trace := by
  unfold Machine.pulsesBegun
  cases he with
  | rose _ _ hl => simp [rearm, hl]; omega
  | fell _ _ hh => by_cases hr : s.rampPhase = .none <;> simp [rearm, hr, hh]
  | disarmed => cases hh : s.pulsePhase <;> simp [rearm, atRest, lowered, hh]
  | completed => cases hh : s.pulsePhase <;> simp [rearm, atRest, lowered, hh]
  | _ => simp [rearm]

/-- The handler emits Complete exactly when it ends a move with a half-period (R427). -/
theorem HandlerEffect.completes {s t : State} (he : HandlerEffect s t) (ha : s.active = true) (h0 : s.halfPeriod ≠ 0#32) :
    countEvent .complete t.trace = countEvent .complete s.trace + (!t.active).toNat := by
  cases he with
  | idle hi => simp [ha] at hi
  | disarmed _ h => exact absurd h h0
  | completed => cases hh : s.pulsePhase <;> simp [rearm, atRest, lowered, hh]
  | fell => by_cases hr : s.rampPhase = .none <;> simp [rearm, hr, ha]
  | _ => simp [rearm, ha]

theorem step_pulsesBegun {s t : State} (h : step s = .next t) (ha : s.active = true) :
    pulsesBegun t + countEvent .stepRise s.trace = pulsesBegun s + countEvent .stepRise t.trace := by
  obtain ⟨-, -, ⟨i, he⟩ | ⟨-, rfl⟩ | he | rfl⟩ := step_effect h
  · obtain ⟨hpulses, -, -⟩ := he.pulses ha
    rw [hpulses, he.stepRises]
    rfl
  · rfl
  · exact he.pulsesBegun
  · rfl

theorem step_completes_count {s t : State} (h : step s = .next t) (ha : s.active = true) (h0 : s.halfPeriod ≠ 0#32) :
    countEvent .complete t.trace = countEvent .complete s.trace + (!t.active).toNat := by
  obtain ⟨-, -, ⟨i, he⟩ | ⟨-, rfl⟩ | he | rfl⟩ := step_effect h
  · obtain ⟨-, hc, hact⟩ := he.pulses ha
    rw [hc, hact]
    rfl
  · simp [ha]
  · exact he.completes ha h0
  · simp [ha]

/-- Each StepRise is one step less to a target that stays (R424). -/
theorem step_stepsLeft {s t : State} (h : step s = .next t) (ht : t.target = s.target) :
    countEvent .stepRise t.trace + stepsLeft t = countEvent .stepRise s.trace + stepsLeft s := by
  unfold stepsLeft
  rw [ht]
  rcases positionCountsStepRises s t h with ⟨hp, hc⟩ | ⟨hc, ⟨hlt, hp⟩ | ⟨hlt, hp⟩⟩
  · rw [hp, hc]
  · omega
  · omega

/-! ## The account over a run of steps -/

theorem halfPeriod_ne_zero {s : State} (h : s.Inv) (ha : s.active = true) : s.halfPeriod ≠ 0#32 := by
  obtain ⟨-, ⟨hmin, -⟩, -⟩ := h.valid
  obtain ⟨-, -, hact⟩ := h.halfPeriod
  obtain ⟨hthp, hhp, -⟩ := hact ha
  intro h0
  simp [h0] at hhp
  omega

/-- The account of a move between a state `s` of it and a later one: its target, its StepRises, its pulses and its Complete. -/
structure MoveAccount (s t : State) : Prop where
  inv : t.Inv
  target : t.target = s.target
  rises : countEvent .stepRise t.trace + stepsLeft t = countEvent .stepRise s.trace + stepsLeft s
  pulses : pulsesBegun t + countEvent .stepRise s.trace = pulsesBegun s + countEvent .stepRise t.trace
  completes : countEvent .complete t.trace = countEvent .complete s.trace + (!t.active).toNat

theorem MoveAccount.refl {s : State} (h : s.Inv) (ha : s.active = true) : MoveAccount s s where
  inv := h
  target := rfl
  rises := rfl
  pulses := rfl
  completes := by simp [ha]

/-- A step of the running move keeps the account if it keeps the target, as a step that ends the move always does (R427). -/
theorem MoveAccount.step {s t u : State} (h : MoveAccount s t) (ha : t.active = true) (hst : step t = .next u)
    (htgt : u.active = true → u.target = s.target) : MoveAccount s u := by
  have h0 := halfPeriod_ne_zero h.inv ha
  have hkept : u.target = t.target := by
    cases hu : u.active
    · obtain ⟨-, htgt, -, -⟩ := completionMeansArrival t u hst ha hu h0
      exact htgt
    · rw [htgt hu, h.target]
  have hrises := step_stepsLeft hst hkept
  have hpulses := step_pulsesBegun hst ha
  have hcompletes := step_completes_count hst ha h0
  have hrun := h.completes
  rw [ha] at hrun
  exact {
    inv := stepKeepsInvariant t u h.inv hst
    target := hkept.trans h.target
    rises := hrises.trans h.rises
    pulses := by have := h.pulses; omega
    completes := by rw [hcompletes, hrun]; rfl }

theorem moveAccount_of_run {r : Nat → State} {m : Nat} (hstep : ∀ k, k < m → step (r k) = .next (r (k + 1)))
    (hinv : (r 0).Inv) (hrun : ∀ k, k < m → (r k).active = true ∧ (r k).target = (r 0).target)
    (hm : (r m).active = false) : ∀ k, k ≤ m → m ≠ 0 → MoveAccount (r 0) (r k) := by
  intro k hk hm0
  induction k with
  | zero => exact .refl hinv (hrun 0 (by omega)).1
  | succ k ih =>
    refine (ih (by omega)).step (hrun k hk).1 (hstep k hk) fun hact => ?_
    have hlt : k + 1 < m := lt_of_le_of_ne hk fun e => by simp [e, hm] at hact
    exact (hrun _ hlt).2

/-- A move at rest at its target: the account closed. -/
theorem MoveAccount.close {s t : State} (h : MoveAccount s t) (hs : s.pulsePhase = false) (ht : t.active = false)
    (hp : t.position = t.target) :
    countEvent .stepRise t.trace = countEvent .stepRise s.trace + stepsLeft s ∧
    countEvent .stepFall t.trace = countEvent .stepFall s.trace + stepsLeft s ∧
    countEvent .complete t.trace = countEvent .complete s.trace + 1 := by
  obtain ⟨hlow, -, -⟩ := h.inv.idle ht
  have hrises := h.rises
  have hpulses := h.pulses
  have hcompletes := h.completes
  rw [stepsLeft_eq_zero.2 hp] at hrises
  simp only [pulsesBegun, hs, hlow, Bool.toNat_false] at hpulses
  rw [ht] at hcompletes
  exact ⟨hrises, by omega, hcompletes⟩

/-- Settles O51: the first clause by induction on the pulses, the second by the account of every step. -/
theorem moveIsExact : Obligations.MoveIsExact := by
  unfold Obligations.MoveIsExact
  refine ⟨fun s n ts hv ha hl h0 ht hn hn0 hlen hin => ?_, fun r m hstep hinv hl hrun hm0 hm => ?_⟩
  · obtain ⟨n, rfl⟩ := Nat.exists_eq_succ_of_ne_zero hn0
    exact takeAt_move ⟨ha, hl, h0⟩ hv ht hn.symm hlen hin
  · obtain ⟨k, rfl⟩ := Nat.exists_eq_succ_of_ne_zero hm0
    have haccount := moveAccount_of_run hstep hinv hrun hm
    have hlast := haccount k (Nat.le_succ k) hm0
    have hend := haccount (k + 1) le_rfl hm0
    obtain ⟨hact, -⟩ := hrun k (Nat.lt_succ_self k)
    obtain ⟨hp, -⟩ := completionMeansArrival _ _ (hstep k (Nat.lt_succ_self k)) hact hm (halfPeriod_ne_zero hlast.inv hact)
    exact ⟨hp.trans hend.target, hend.target, hend.close hl hm hp⟩

end Sys2Proof.Machine
end

section
/-! The ramp advance written out by its branches (R483 to R488), and the exactness of the recomputed midpoint (R484, R489): O48 and
O49. -/

namespace Sys2Proof.Machine

/-! ## The table and the countdown -/

/-- An index inside the table reads its own entry (R18, R200). -/
theorem rampTableRead_of_lt {c : Config} {i : Nat} (h : i < c.rampTable.length) :
    rampTableRead c i = c.rampTable.getD i 0#16 := by
  rw [rampTableRead, min_eq_left (Nat.le_sub_one_of_lt h)]

theorem ofNat_toNat_sub_one {w : Nat} {x : BitVec w} (h : 0 < x.toNat) : BitVec.ofNat w (x.toNat - 1) = x - 1#w := by
  rw [← BitVec.ofNat_sub_ofNat_of_le _ _ (lt_of_le_of_lt h x.isLt) h, BitVec.ofNat_toNat, BitVec.setWidth_eq]

/-! ## The phase transition -/

/-- R483's comparison, by the direction of the move. -/
theorem midpointCrossed_iff (s : State) :
    midpointCrossed s = true ↔
      if s.direction = .forward then s32 s.rampMidpoint ≤ s32 s.position else s32 s.position ≤ s32 s.rampMidpoint := by
  unfold midpointCrossed
  cases s.direction <;> simp

/-- The transition writes the phase alone (R483). -/
theorem rampTransition_eq (s : State) :
    rampTransition s =
      { s with rampPhase := if s.rampPhase = .accel ∧ midpointCrossed s then .decel else s.rampPhase } := by
  unfold rampTransition
  split <;> rfl

/-! ## The adjustment and the reload -/

section
variable {s : State}

/-- ACCEL above the cruise half-period: one tick faster, the next entry, and at cruise the recomputed midpoint (R484, R485). -/
theorem rampAdjustAndReload_accel (hphase : s.rampPhase = .accel) (hidx : s.rampIndex < s.cfg.rampTable.length)
    (hlt : s.targetHalfPeriod.toNat < s.halfPeriod.toNat) :
    rampAdjustAndReload s = { s with
      halfPeriod := BitVec.ofNat 32 (s.halfPeriod.toNat - 1)
      rampIndex := min (s.rampIndex + 1) (s.cfg.rampTable.length - 1)
      rampMidpoint :=
        if s.halfPeriod.toNat - 1 = s.targetHalfPeriod.toNat then recomputedMidpoint s else s.rampMidpoint
      rampIterCount := s.cfg.rampTable.getD (min (s.rampIndex + 1) (s.cfg.rampTable.length - 1)) 0#16 } := by
  have hup : min (s.rampIndex + 1) (s.cfg.rampTable.length - 1) < s.cfg.rampTable.length := by omega
  have hcruise : s.halfPeriod - 1#32 = s.targetHalfPeriod ↔ s.halfPeriod.toNat - 1 = s.targetHalfPeriod.toNat := by
    bv_omega
  rw [← rampTableRead_of_lt hup, ofNat_toNat_sub_one (by omega), ← if_congr hcruise rfl rfl]
  unfold rampAdjustAndReload rampAccelAdjust
  rw [if_pos hphase, if_pos (BitVec.lt_def.2 hlt)]

/-- DECEL below the ramp's slowest half-period: one tick slower, and the entry before (R486). -/
theorem rampAdjustAndReload_decel (hphase : s.rampPhase ≠ .accel) (hidx : s.rampIndex < s.cfg.rampTable.length)
    (hlt : s.halfPeriod.toNat < rampSlowest s.cfg s.targetHalfPeriod) :
    rampAdjustAndReload s = { s with
      halfPeriod := s.halfPeriod + 1#32
      rampIndex := s.rampIndex - 1
      rampIterCount := s.cfg.rampTable.getD (s.rampIndex - 1) 0#16 } := by
  rw [← rampTableRead_of_lt (lt_of_le_of_lt (Nat.sub_le _ _) hidx)]
  unfold rampAdjustAndReload rampDecelAdjust
  rw [if_neg hphase, if_pos hlt]

/-- Cruise, or a deceleration that is back at its slowest: the present entry again (R487). -/
theorem rampAdjustAndReload_steady (hidx : s.rampIndex < s.cfg.rampTable.length)
    (haccel : ¬(s.rampPhase = .accel ∧ s.targetHalfPeriod.toNat < s.halfPeriod.toNat))
    (hdecel : ¬(s.rampPhase ≠ .accel ∧ s.halfPeriod.toNat < rampSlowest s.cfg s.targetHalfPeriod)) :
    rampAdjustAndReload s = { s with rampIterCount := s.cfg.rampTable.getD s.rampIndex 0#16 } := by
  rw [← rampTableRead_of_lt hidx]
  unfold rampAdjustAndReload rampAccelAdjust rampDecelAdjust
  by_cases hphase : s.rampPhase = .accel
  · have hcruise : ¬s.targetHalfPeriod < s.halfPeriod := fun hlt => haccel ⟨hphase, hlt⟩
    rw [if_pos hphase, if_neg hcruise]
  · rw [if_neg hphase, if_neg fun hlt => hdecel ⟨hphase, hlt⟩]

end

/-- Settles O48: the transition's phase, then repeats left or one of the three outcomes of the adjustment. -/
theorem rampAdvanceFollowsTable : Obligations.RampAdvanceFollowsTable := by
  unfold Obligations.RampAdvanceFollowsTable
  intro s hidx crossed phase entry up down
  have htransition : rampTransition s = { s with rampPhase := phase } := by
    simp only [rampTransition_eq, midpointCrossed_iff]
    rfl
  have hdown : down.toNat = s.rampIndex - 1 := by omega
  rw [rampAdvance, htransition, hdown]
  rcases rampCountdown_spec { s with rampPhase := phase } with ⟨hcount, e⟩ | ⟨hcount, e⟩
  · have hpos : 0 < s.rampIterCount.toNat := Nat.zero_lt_of_lt hcount
    rw [e, if_pos hcount, ofNat_toNat_sub_one hpos]
  · rw [e, if_neg (Nat.not_lt.2 hcount), rampAdjustAndReload_ignores_rampIterCount]
    split
    · next haccel =>
      obtain ⟨hphase, hfaster⟩ := haccel
      exact rampAdjustAndReload_accel hphase hidx hfaster
    · next haccel =>
      split
      · next hdecel =>
        obtain ⟨hphase, hslower⟩ := hdecel
        exact rampAdjustAndReload_decel hphase hidx hslower
      · next hdecel => exact rampAdjustAndReload_steady hidx haccel hdecel

/-! ## The recomputed midpoint -/

/-- A midpoint whose exact value fits its register is exact (R484). -/
theorem s32_recomputedMidpoint {s : State}
    (hlo : -(2 ^ 31) ≤ s32 s.target - (s32 s.position - s32 s.rampStartPosition))
    (hhi : s32 s.target - (s32 s.position - s32 s.rampStartPosition) ≤ 2 ^ 31 - 1) :
    s32 (recomputedMidpoint s) = s32 s.target - (s32 s.position - s32 s.rampStartPosition) :=
  s32_u32 _ hlo hhi

/-- Settles O49: the position lies between the start and the target, so the exact midpoint does too, and it fits its register. -/
theorem recomputedMidpointIsExact : Obligations.RecomputedMidpointIsExact := by
  unfold Obligations.RecomputedMidpointIsExact
  intro s hinv hact hramp
  obtain ⟨hstartF, hstartR⟩ := hinv.behind hact hramp
  obtain ⟨htargetF, htargetR⟩ := hinv.ahead hact
  have hstartLo := s32_lower s.rampStartPosition
  have hstartHi := s32_upper s.rampStartPosition
  have htargetLo := s32_lower s.target
  have htargetHi := s32_upper s.target
  cases hd : s.direction with
  | forward =>
    have hstart := hstartF hd
    have htarget := htargetF hd
    have hexact := s32_recomputedMidpoint (s := s) (by omega) (by omega)
    exact ⟨hexact, fun _ => by omega, nofun⟩
  | reverse =>
    have hstart := hstartR hd
    have htarget := htargetR hd
    have hexact := s32_recomputedMidpoint (s := s) (by omega) (by omega)
    exact ⟨hexact, nofun, fun _ => by omega⟩

end Sys2Proof.Machine
end

section
/-! The queue as a FIFO (R501, R502, R504, R505), its pushes (R510 to R513) and its two predicates (R503, R514, R515): O32, O29 and
O31. -/

namespace Sys2Proof.Machine

/-! ## FIFO order -/

/-- H ≥ 2 leaves a queue that is not full a slot beyond the one the next push takes (R13, R503). -/
theorem queueCount_succ_lt_of_not_full {s : State} (hv : s.cfg.Valid) (hf : isFull s = false) :
    queueCount s + 1 < s.cfg.queueCapacity := by
  obtain ⟨-, hH, -⟩ := valid_capacity hv
  have hfree := queueCount_le_of_not_full s hf
  omega

theorem length_unreadEntries (s : State) : (unreadEntries s).length = queueCount s := by
  rw [unreadEntries, List.length_map, List.length_range]

/-- An empty queue has no unread entry (R503). -/
theorem unreadEntries_of_isEmpty {s : State} (he : isEmpty s = true) : unreadEntries s = [] := by
  have heq : s.writeIndex = s.readIndex := of_decide_eq_true he
  rw [← List.length_eq_zero_iff, length_unreadEntries, queueCount, heq, Int.sub_self, Int.zero_emod, Int.toNat_zero]

/-- Settles O32: a push, a pop and a clear each by its way with the unread entries. -/
theorem queueIsFifo : Obligations.QueueIsFifo := by
  unfold Obligations.QueueIsFifo
  intro s hv hq hs
  obtain ⟨hw, hr, -⟩ := hq
  refine ⟨fun w t h => ?_, fun w t c h hc => ?_, fun e t h => ?_, ?_, unreadEntries_clearQueue s, length_unreadEntries s⟩
  · rcases push_spec w s with ⟨-, hpush⟩ | ⟨hf, hpush⟩
    · exact nomatch hpush.symm.trans h
    · obtain ⟨rfl, -⟩ := Prod.mk.inj (hpush.symm.trans h)
      exact unreadEntries_pushed w hw hr (queueCount_succ_lt_of_not_full hv hf) hs
  · rcases push_spec w s with ⟨-, hpush⟩ | ⟨-, hpush⟩
    · obtain ⟨rfl, -⟩ := Prod.mk.inj (hpush.symm.trans h)
      rfl
    · obtain ⟨-, rfl⟩ := Prod.mk.inj (hpush.symm.trans h)
      exact absurd rfl hc
  · rcases pop_spec s with ⟨-, hpop⟩ | ⟨he, hpop⟩
    · exact nomatch hpop.symm.trans h
    · obtain ⟨rfl, rfl⟩ := Prod.mk.inj (Option.some.inj (hpop.symm.trans h))
      exact unreadEntries_popped hw hr he
  · rcases pop_spec s with ⟨he, hpop⟩ | ⟨he, hpop⟩
    · exact iff_of_true hpop (unreadEntries_of_isEmpty he)
    · rw [hpop, unreadEntries_popped hw hr he]
      exact iff_of_false nofun nofun

/-! ## The queue requests -/

/-- A queue request into a queue that is not full pushes its word and answers OK (R501, R510 to R513). -/
theorem pushRequest_of_not_full {s : State} (hf : isFull s = false) (w : Word) :
    pushRequest w s = respond .ok 0#32 (pushed w s) := by
  rcases pushRequest_spec w s with ⟨hfull, -⟩ | ⟨-, h⟩
  · exact absurd (hfull.symm.trans hf) nofun
  · exact h

/-- Settles O29: each of the four operations is `pushRequest` of its own word. -/
theorem queuePushStoresRequestWord : Obligations.QueuePushStoresRequestWord := by
  unfold Obligations.QueuePushStoresRequestWord
  intro s hf stored
  have hstored (w : Word) : (.next (pushRequest w s) : Host.Outcome State Fault Refusal) = .next (stored w) :=
    congrArg _ (pushRequest_of_not_full hf w)
  exact ⟨fun _ _ => ⟨_, rfl, hstored _⟩, fun _ => ⟨_, rfl, hstored _⟩, fun _ => ⟨_, rfl, hstored _⟩,
    fun _ => ⟨_, rfl, hstored _⟩⟩

/-! ## QFULL and QEMPTY -/

/-- R503's formula of `isFull` on integers: the count is the modulus itself, which N above 0 keeps from being negative (R118). -/
theorem isFull_iff {s : State} (hN : 0 < s.cfg.queueCapacity) :
    isFull s = true ↔
      (s.cfg.queueCapacity : Int) - ((s.writeIndex : Int) - (s.readIndex : Int)) % (s.cfg.queueCapacity : Int) <
        (s.cfg.queueHeadroom : Int) := by
  rw [isFull, decide_eq_true_iff, queueFree, queueCount, Int.toNat_of_nonneg (Int.emod_nonneg _ (by omega))]

theorem isEmpty_iff {s : State} : isEmpty s = true ↔ s.writeIndex = s.readIndex := decide_eq_true_iff

/-- Settles O31: the two words are decoded by computation, and each operation answers its predicate's response word. -/
theorem queuePredicatesAnswered : Obligations.QueuePredicatesAnswered := by
  unfold Obligations.QueuePredicatesAnswered
  refine ⟨rfl, rfl, fun s hv => ?_⟩
  obtain ⟨hN, -, -⟩ := valid_capacity hv
  rw [← if_congr (isFull_iff (by omega)) rfl rfl, ← if_congr isEmpty_iff rfl rfl, ← responseWord_boolValue,
    ← responseWord_boolValue]
  exact ⟨rfl, rfl⟩

end Sys2Proof.Machine
end

section
/-! The cutter and its settle delay (R550 to R554, R603 to R605): the move primitive as a whole next state, and FG in Settling up to
the held response. O53, O54, O9 and O55. -/

namespace Sys2Proof.Machine

/-! ## The move primitive -/

/-- The test of R554 and R605 as they write it. -/
theorem cutterOpposite_eq (s : State) :
    cutterOpposite s = if s.currentTarget = s.cfg.cutterUpPos then s.cfg.cutterDownPos else s.cfg.cutterUpPos := by
  simp [cutterOpposite, cutterIsUp]

/-- R550 with no delay, for whatever response is held. -/
theorem cutterMove_at_once (p : BitVec 16) (h : Word) (s : State) :
    cutterMove p 0#16 { s with held := h } = { s with
      currentTarget := p
      servo := p
      trace := s.trace ++ [{ event := .servo p, time := s.now }]
      held := h
      responses := s.responses ++ [h] } := by
  rcases cutterMove_spec p 0#16 { s with held := h } with ⟨-, hmove⟩ | ⟨hne, -⟩
  · exact hmove
  · exact absurd rfl hne

/-- R550 with a delay: its ticks, exact on integers, enter the 32-bit count. -/
theorem cutterMove_settles {m : BitVec 16} (hm : m ≠ 0#16) (p : BitVec 16) (h : Word) (s : State) :
    cutterMove p m { s with held := h } = { s with
      currentTarget := p
      servo := p
      trace := s.trace ++ [{ event := .servo p, time := s.now }]
      held := h
      fgMode := .settling
      settleRemaining := BitVec.ofNat 32 (m.toNat * s.cfg.ticksPerMs) } := by
  have hticks : u32 (settleTicks s.cfg m) = BitVec.ofNat 32 (m.toNat * s.cfg.ticksPerMs) := BitVec.ofInt_natCast _ _
  rcases cutterMove_spec p m { s with held := h } with ⟨h0, -⟩ | ⟨-, hmove⟩
  · exact absurd h0 hm
  · rw [hmove, ← hticks]
    rfl

/-- Settles O53: a request holds OK before the move, an entry keeps what POLL held; the rest is one move. -/
theorem cutterMoveAtOnce : Obligations.CutterMoveAtOnce := by
  unfold Obligations.CutterMoveAtOnce
  intro s
  rw [← cutterOpposite_eq]
  intro opposite moved
  have hmove (p : BitVec 16) (h : Word) :
      (.next (cutterMove p 0#16 { s with held := h }) : Host.Outcome State Fault Refusal) = .next (moved p h h) :=
    congrArg _ (cutterMove_at_once p h s)
  exact ⟨hmove _ _, hmove _ _, hmove _ _, hmove _ s.held, hmove _ s.held, hmove _ s.held⟩

/-- Settles O54, as O53 with the delay in place of the response. -/
theorem cutterMoveSettles : Obligations.CutterMoveSettles := by
  unfold Obligations.CutterMoveSettles
  intro s m hm
  rw [← cutterOpposite_eq]
  intro opposite settling
  have hmove (p : BitVec 16) (h : Word) :
      (.next (cutterMove p m { s with held := h }) : Host.Outcome State Fault Refusal) = .next (settling p h) :=
    congrArg _ (cutterMove_settles hm p h s)
  exact ⟨hmove _ _, hmove _ _, hmove _ _, hmove _ s.held, hmove _ s.held, hmove _ s.held⟩

/-! ## FG in Settling -/

theorem fgAction_settled {s : State} (hm : s.fgMode = .settling) (h0 : s.settleRemaining = 0#32) :
    fgAction s = some .settleEnd := by
  simp [fgAction, hm, h0]

theorem fgAction_settling {s : State} (hm : s.fgMode = .settling) (h0 : s.settleRemaining ≠ 0#32) : fgAction s = none := by
  simp [fgAction, hm, h0]

/-- FG's step is its enabled one, or TICK's where it has none (R712, log 5). -/
theorem step_fg {s : State} (hv : s.cfg.Valid) (hf : s.faults = []) (hn : nextAgent s = .fg) :
    step s = runAction ((fgAction s).getD .tick) (advanceSchedule s) := by
  rw [step_of_valid s hv hf, hn]
  rfl

theorem step_tick {s : State} (hv : s.cfg.Valid) (hf : s.faults = []) (hn : nextAgent s = .tick) :
    step s = .next (tick (advanceSchedule s)) := by
  rw [step_of_valid s hv hf, hn]
  rfl

/-- FG, named with its settle delay used up, ends it (R551). -/
theorem step_settleEnd {s : State} (hv : s.cfg.Valid) (hf : s.faults = []) (hn : nextAgent s = .fg)
    (hm : s.fgMode = .settling) (h0 : s.settleRemaining = 0#32) : step s = .next (settleEnd (advanceSchedule s)) := by
  rw [step_fg hv hf hn, fgAction_settled hm h0]
  rfl

/-- Settles O9: FG's one enabled step in Settling is `SettleEnd`, and that only at 0. -/
theorem settlingTakesNoRequest : Obligations.SettlingTakesNoRequest := by
  unfold Obligations.SettlingTakesNoRequest
  refine fun s hv hf hn hm => ⟨step_settleEnd hv hf hn hm, fun h0 => ?_⟩
  rw [step_fg hv hf hn, fgAction_settling hm h0]
  rfl

/-! ## The settle delay tick by tick -/

theorem nextAgent_of_schedule {s : State} {a : Agent} {rest : List Agent} (hs : s.schedule = a :: rest) :
    nextAgent s = a := by
  simp [nextAgent, upcoming, hs]

theorem advanceSchedule_schedule_of_cons {s : State} {a : Agent} {rest : List Agent} (hs : s.schedule = a :: rest) :
    (advanceSchedule s).schedule = rest := by
  simp [upcoming, hs]

/-- A tick takes one from the settle delay (R131). -/
theorem tick_settleRemaining {s : State} {n : Nat} (hm : s.fgMode = .settling) (hn : s.settleRemaining.toNat = n + 1) :
    (tick s).settleRemaining.toNat = n := by
  have h0 : s.settleRemaining ≠ 0#32 := fun h => by simp [h] at hn
  have htick : (tick s).settleRemaining = s.settleRemaining - 1#32 := if_pos ⟨hm, h0⟩
  rw [htick]
  bv_omega

theorem stepN_succ {s u : State} (h : step s = .next u) (n : Nat) : stepN (n + 1) s = stepN n u := by
  rw [stepN, h]

/-- Settles O55, by induction on the ticks left: at 0 FG ends the delay, else a tick leaves the same wait, one tick shorter. -/
theorem settleDelayLastsItsTicks : Obligations.SettleDelayLastsItsTicks := by
  unfold Obligations.SettleDelayLastsItsTicks
  intro s n rest hv hf hm hn hs
  induction n generalizing s with
  | zero =>
    have h0 : s.settleRemaining = 0#32 := BitVec.eq_of_toNat_eq hn
    have hend := step_settleEnd hv hf (nextAgent_of_schedule hs) hm h0
    refine ⟨fun k hk => ?_, _, stepN_succ hend 0, by simp⟩
    obtain rfl := Nat.le_zero.1 hk
    exact ⟨s, rfl, hm, hn, rfl, rfl⟩
  | succ n ih =>
    have hs' : s.schedule = .tick :: (List.replicate n .tick ++ .fg :: rest) := hs
    have htick := step_tick hv hf (nextAgent_of_schedule hs')
    obtain ⟨hwait, t, ht, hready, hreq, hresp, hnow⟩ := ih (tick (advanceSchedule s)) hv hf hm
      (tick_settleRemaining hm hn) (advanceSchedule_schedule_of_cons hs')
    refine ⟨fun k hk => ?_, t, (stepN_succ htick _).trans ht, hready, hreq, hresp, ?_⟩
    · cases k with
      | zero => exact ⟨s, rfl, hm, hn, rfl, rfl⟩
      | succ k =>
        obtain ⟨u, hu, hmode, hleft, hkept⟩ := hwait k (Nat.le_of_succ_le_succ hk)
        exact ⟨u, (stepN_succ htick k).trans hu, hmode, by omega, hkept⟩
    · rw [hnow, tick_now, advanceSchedule_now]
      bv_omega

end Sys2Proof.Machine
end

section
/-! The controller (R601 to R611): the dispatch of an entry by its kind, POLL, STOPALL, the motor operations and RDREG, each as a whole
next state. O56 to O60. -/

namespace Sys2Proof.Machine

/-! ## The dispatch of an entry -/

/-- The four kinds of R311 and the operation of each. -/
theorem decodeEntry_cases {e : Word} {i : Instr} (h : decodeEntry e = some i) :
    (opField e = 0x01#8 ∧ i = .eMove (imm16Field e) (imm32Field e)) ∨
    (opField e = 0x02#8 ∧ i = .eCutup (imm16Field e)) ∨
    (opField e = 0x03#8 ∧ i = .eCutdn (imm16Field e)) ∨
    (opField e = 0x04#8 ∧ i = .eCuttg (imm16Field e)) := by
  unfold decodeEntry at h
  split at h
  case h_1 hk => exact .inl ⟨hk, (Option.some.inj h).symm⟩
  case h_2 hk => exact .inr (.inl ⟨hk, (Option.some.inj h).symm⟩)
  case h_3 hk => exact .inr (.inr (.inl ⟨hk, (Option.some.inj h).symm⟩))
  case h_4 hk => exact .inr (.inr (.inr ⟨hk, (Option.some.inj h).symm⟩))
  case h_5 => exact nomatch h

/-- An entry's operation is of the entry space (R311). -/
theorem space_of_decodeEntry {e : Word} {i : Instr} (h : decodeEntry e = some i) : i.space = .queueEntry := by
  obtain ⟨-, rfl⟩ | ⟨-, rfl⟩ | ⟨-, rfl⟩ | ⟨-, rfl⟩ := decodeEntry_cases h <;> rfl

/-- Dispatch performs the operation that the entry decodes to (R311, R602 to R605). -/
theorem dispatchEntry_of_decodeEntry {e : Word} {i : Instr} (h : decodeEntry e = some i) (s : State) :
    dispatchEntry e s = exec i s := by
  obtain ⟨hk, rfl⟩ | ⟨hk, rfl⟩ | ⟨hk, rfl⟩ | ⟨hk, rfl⟩ := decodeEntry_cases h <;>
    simp only [dispatchEntry, hk, exec]

/-- R606: every kind that R311 does not list. -/
theorem dispatchEntry_of_unknown {e : Word} (h1 : opField e ≠ 0x01#8) (h2 : opField e ≠ 0x02#8) (h3 : opField e ≠ 0x03#8)
    (h4 : opField e ≠ 0x04#8) (s : State) : dispatchEntry e s = .next (raiseFault .badQueueEntry s) := by
  unfold dispatchEntry
  split
  case h_1 hk => exact absurd hk h1
  case h_2 hk => exact absurd hk h2
  case h_3 hk => exact absurd hk h3
  case h_4 hk => exact absurd hk h4
  case h_5 => rfl

/-- The first fault recorded is the only one (R130). -/
theorem raiseFault_of_no_fault {s : State} (hf : s.faults = []) (f : Fault) : raiseFault f s = { s with faults := [f] } := by
  rw [raiseFault, hf, if_neg List.not_mem_nil, List.nil_append]

/-- Settles O57: none of the four kinds is dispatched, and the first fault recorded is then this one. -/
theorem unknownEntryRaisesFault : Obligations.UnknownEntryRaisesFault := by
  unfold Obligations.UnknownEntryRaisesFault
  intro s e hf h1 h2 h3 h4
  rw [dispatchEntry_of_unknown h1 h2 h3 h4, raiseFault_of_no_fault hf]

/-! ## POLL -/

/-- No operation of the entry space moves the read index: POLL has moved it before (R601). -/
theorem exec_entry_readIndex {i : Instr} {s t : State} (hi : i.space = .queueEntry) (he : exec i s = .next t) :
    t.readIndex = s.readIndex := by
  have hne {j : Instr} (hj : j.space ≠ .queueEntry) : i ≠ j := fun h => hj (h ▸ hi)
  exact (exec_effect (hne nofun) he).readIndex (hne nofun) (hne nofun)

/-- H is at most N, so an empty queue is not full (R13, R503). -/
theorem isFull_of_isEmpty {s : State} (hv : s.cfg.Valid) (he : isEmpty s = true) : isFull s = false := by
  obtain ⟨-, -, hH⟩ := valid_capacity hv
  have hcount : queueCount s = 0 := by rw [← length_unreadEntries, unreadEntries_of_isEmpty he, List.length_nil]
  rw [isFull, queueFree, hcount]
  exact decide_eq_false (by omega)

theorem exec_poll_moving {s : State} (ha : s.active = true) : exec .poll s = .next (respond .ok 1#32 s) :=
  if_pos ha

theorem exec_poll_empty {s : State} (ha : s.active = false) (he : isEmpty s = true) :
    exec .poll s = .next (respond .ok (boolValue (isFull s)) s) := by
  rcases execPoll_spec s with ⟨hm, -⟩ | ⟨-, -, h⟩ | ⟨-, hne, -⟩
  · exact absurd (hm.symm.trans ha) nofun
  · exact h
  · exact absurd (hne.symm.trans he) nofun

/-- POLL of an entry performs its operation on the popped queue with the fullness held (R601 to R605). -/
theorem exec_poll_entry {s : State} {i : Instr} (ha : s.active = false) (he : isEmpty s = false)
    (hd : decodeEntry (slotRead s s.readIndex) = some i) :
    exec .poll s = exec i (holdResponse .ok (boolValue (isFull (popped s))) (popped s)) := by
  rcases execPoll_spec s with ⟨hm, -⟩ | ⟨-, hempty, -⟩ | ⟨-, -, h⟩
  · exact absurd (hm.symm.trans ha) nofun
  · exact absurd (hempty.symm.trans he) nofun
  · exact h.trans (dispatchEntry_of_decodeEntry hd _)

/-- Settles O56, one clause for each way of POLL; an entry's operation keeps the read index the pop has left. -/
theorem pollAnswersOrDispatchesOneEntry : Obligations.PollAnswersOrDispatchesOneEntry := by
  unfold Obligations.PollAnswersOrDispatchesOneEntry
  refine ⟨fun s ha => exec_poll_moving ha, fun s hv ha he => ?_, fun s i ha hne hd => ⟨?_, ?_⟩⟩
  · have hempty := isEmpty_iff.2 he
    rw [exec_poll_empty ha hempty, isFull_of_isEmpty hv hempty]
    rfl
  · rw [exec_poll_entry ha (decide_eq_false hne) hd, holdResponse, responseWord_boolValue]
    rfl
  · obtain ⟨t, ht⟩ := exec_completes .poll s
    have hentry := (exec_poll_entry ha (decide_eq_false hne) hd).symm.trans ht
    exact ⟨t, ht, exec_entry_readIndex (space_of_decodeEntry hd) hentry⟩

/-! ## STOPALL and the motor operations -/

/-- STOPALL is the clear, the soft stop and OK (R607). -/
theorem exec_stopall (s : State) : exec .stopall s = .next (respond .ok 0#32 (softStop (clearQueue s))) := rfl

/-- Settles O58: the word is decoded by computation; the soft stop reads registers that the clear leaves alone. -/
theorem stopallClearsAndStops : Obligations.StopallClearsAndStops := by
  unfold Obligations.StopallClearsAndStops
  refine ⟨rfl, fun s => ?_⟩
  rw [exec_stopall, softStop_eq]
  rfl

/-- ENABLE written, its level emitted, and OK (R608 to R610). -/
theorem respond_setEnable (b : Bool) (s : State) :
    respond .ok 0#32 (setEnable b s) = { s with
      enableOut := b
      trace := s.trace ++ [{ event := .enable b, time := s.now }]
      responses := s.responses ++ [0x0000000000000000#64] } := rfl

/-- Settles O59: the words are decoded by computation, and the three operations are one write of ENABLE at three levels. -/
theorem motorOperationsWriteEnable : Obligations.MotorOperationsWriteEnable := by
  unfold Obligations.MotorOperationsWriteEnable
  refine ⟨rfl, rfl, rfl, fun s => ?_⟩
  intro driven
  have hdriven (b : Bool) :
      (.next (respond .ok 0#32 (setEnable b s)) : Host.Outcome State Fault Refusal) = .next (driven b) :=
    congrArg _ (respond_setEnable b s)
  exact ⟨hdriven true, hdriven false, hdriven (!s.enableOut)⟩

/-! ## RDREG -/

theorem exec_rdreg_of_register {k : BitVec 16} {s : State} {v : BitVec 32} (h : registerValue k s = some v) :
    exec (.rdreg k) s = .next (respond .ok v s) := by
  simp only [exec, execRdreg, h]

theorem exec_rdreg_of_no_register {k : BitVec 16} {s : State} (h : registerValue k s = none) :
    exec (.rdreg k) s = .next (respond .illegalRequest 0#32 s) := by
  simp only [exec, execRdreg, h, illegalRequest]

/-- R322 lists the indices 0 to 6 alone. -/
theorem registerValue_eq_none {k : BitVec 16} (h : 6 < k.toNat) (s : State) : registerValue k s = none := by
  unfold registerValue
  split
  case h_8 => rfl
  all_goals exact absurd h (by decide)

/-- An OK response is its value with 32 zero bits above it (R302, R303). -/
theorem responseWord_ok (v : BitVec 32) : responseWord .ok v = 0#32 ++ v := rfl

/-- Settles O60: an index of R322 is answered by its register, any other as an illegal request. -/
theorem rdregReadsStatusRegisters : Obligations.RdregReadsStatusRegisters := by
  unfold Obligations.RdregReadsStatusRegisters
  intro s answered
  have hread {k : BitVec 16} {v : BitVec 32} (h : registerValue k s = some v) : exec (.rdreg k) s = .next (answered v) := by
    rw [exec_rdreg_of_register h, respond, respondWord, responseWord_ok]
  exact ⟨hread rfl, hread rfl, hread rfl, hread rfl, hread rfl, hread rfl, hread rfl,
    fun k hk => exec_rdreg_of_no_register (registerValue_eq_none hk s)⟩

end Sys2Proof.Machine
end

section
/-! A push refused while the queue is full (R702): O30. The scheduler names every agent again and again (log 5), so every run is
weakly fair, and what weak fairness brings about (R712, R211): O12. -/

namespace Sys2Proof.Machine

/-! ## QueueFull -/

/-- A queue request into a full queue answers QUEUE_FULL and writes nothing (R501, R702). -/
theorem pushRequest_of_full {s : State} (hf : isFull s = true) (w : Word) :
    pushRequest w s = respond .queueFull 0#32 s := by
  rcases pushRequest_spec w s with ⟨-, h⟩ | ⟨hroom, -⟩
  · exact h
  · exact absurd (hf.symm.trans hroom) nofun

/-- Settles O30: each of the four operations is `pushRequest` of its own word. -/
theorem queueFullRefusesPush : Obligations.QueueFullRefusesPush := by
  unfold Obligations.QueueFullRefusesPush
  intro s hf refused
  have hrefused (w : Word) : (.next (pushRequest w s) : Host.Outcome State Fault Refusal) = .next refused :=
    congrArg _ (pushRequest_of_full hf w)
  exact ⟨fun _ _ => hrefused _, fun _ => hrefused _, fun _ => hrefused _, fun _ => hrefused _⟩

/-! ## A step by the agent that moves -/

theorem performRequest_effect {w : Word} {s t : State} (h : performRequest w s = .next t) : ∃ i, FgEffect i s t := by
  unfold performRequest at h
  split at h
  case h_1 i hd =>
    have hi : i ≠ .timerEvent := by
      rintro rfl
      exact absurd (decodeRequest_space w _ hd) nofun
    exact ⟨i, exec_effect hi h⟩
  case h_2 =>
    obtain rfl := Host.Outcome.next.inj h
    exact ⟨.qfull, .answer_self _ _ _⟩

/-- `step_effect` with the agent that moves: an operation is FG's while Ready, `SettleEnd` is FG's at the end of a settle delay, and
the handler and TICK have one step each (R551, R712). -/
theorem step_mover_effect {s t : State} (h : step s = .next t) :
    (mover s = .fg ∧ s.fgMode = .ready ∧ ∃ i, FgEffect i (dropRequest (advanceSchedule s)) t) ∨
    (mover s = .fg ∧ s.fgMode = .settling ∧ s.settleRemaining = 0#32 ∧ t = settleEnd (advanceSchedule s)) ∨
    (mover s = .isr ∧ HandlerEffect (enterInterrupt (advanceSchedule s)) t) ∨
    (mover s = .tick ∧ t = tick (advanceSchedule s)) := by
  obtain ⟨-, -, hc⟩ := step_next_mover s t h
  rcases hc with ⟨ha, hm, w, ws, -, hp⟩ | hend | ⟨ha, -, he⟩ | htick
  · exact .inl ⟨ha, hm, performRequest_effect hp⟩
  · exact .inr (.inl hend)
  · exact .inr (.inr (.inl ⟨ha, handler_effect he⟩))
  · exact .inr (.inr (.inr htick))

/-! ## What a step does to the scheduler -/

theorem FgEffect.scheduler {i : Instr} {s t : State} (he : FgEffect i s t) :
    t.schedule = s.schedule ∧ t.turns = s.turns := by
  cases he <;> simp [prepared, pushed]

theorem HandlerEffect.scheduler {s t : State} (he : HandlerEffect s t) :
    t.schedule = s.schedule ∧ t.turns = s.turns := by
  cases he with
  | fell => by_cases hr : s.rampPhase = .none <;> simp [rearm, hr]
  | _ => exact ⟨rfl, rfl⟩

/-- No agent writes the scheduler's fields, so a step uses up one choice of the scheduler and no more (log 5). -/
theorem step_scheduler {s t : State} (h : step s = .next t) :
    t.schedule = (advanceSchedule s).schedule ∧ t.turns = (advanceSchedule s).turns := by
  rcases step_mover_effect h with ⟨-, -, i, he⟩ | ⟨-, -, -, rfl⟩ | ⟨-, he⟩ | ⟨-, rfl⟩
  · exact he.scheduler
  · exact ⟨rfl, rfl⟩
  · exact he.scheduler
  · exact ⟨rfl, rfl⟩

theorem upcoming_of_schedule {s : State} (h : s.schedule ≠ []) : upcoming s = s.schedule := by
  obtain ⟨a, rest, hs⟩ := List.exists_cons_of_ne_nil h
  rw [upcoming_cons s a rest hs, hs]

theorem nextAgent_of_upcoming {s : State} {a : Agent} {rest : List Agent} (h : upcoming s = a :: rest) :
    nextAgent s = a := by
  rw [nextAgent, h, List.headD_cons]

/-- Every agent has its turn among the ends of three blocks in a row (log 5). -/
theorem exists_turnAgent_eq (a : Agent) (k : Nat) : ∃ j, turnAgent (k + j) = a := by
  have hturn {x y : Nat} (h : x % 3 = y % 3) : turnAgent x = turnAgent y := by rw [turnAgent, turnAgent, h]
  cases a with
  | fg => exact ⟨2 * k, hturn (y := 0) (by omega)⟩
  | isr => exact ⟨2 * k + 1, hturn (y := 1) (by omega)⟩
  | tick => exact ⟨2 * k + 2, hturn (y := 2) (by omega)⟩

section
variable {r : Nat → State} (hr : IsRun r)
include hr

/-! ## Every agent is named again and again -/

/-- The agents to be named are named in order; after the last one the next block begins. -/
theorem IsRun.exists_last_named {a : Agent} : ∀ {l : List Agent} {n : Nat}, upcoming (r n) = l ++ [a] →
    ∃ m, n ≤ m ∧ nextAgent (r m) = a ∧ (r (m + 1)).schedule = [] ∧ (r (m + 1)).turns = (advanceSchedule (r n)).turns := by
  intro l
  induction l with
  | nil =>
    intro n hl
    obtain ⟨hs, ht⟩ := step_scheduler (hr n)
    exact ⟨n, le_rfl, nextAgent_of_upcoming hl, by rw [hs, advanceSchedule_schedule, hl]; rfl, ht⟩
  | cons b l ih =>
    intro n hl
    obtain ⟨hs, ht⟩ := step_scheduler (hr n)
    have hrest : (r (n + 1)).schedule = l ++ [a] := by rw [hs, advanceSchedule_schedule, hl]; rfl
    have hne : (r (n + 1)).schedule ≠ [] := by simp [hrest]
    obtain ⟨m, hm, hnamed, hempty, hturns⟩ := ih ((upcoming_of_schedule hne).trans hrest)
    refine ⟨m, by omega, hnamed, hempty, ?_⟩
    rw [hturns, advanceSchedule_turns, if_neg (by simpa using hne), ht]

/-- A block begins again and again. -/
theorem IsRun.exists_block_begin (n : Nat) : ∃ m, n ≤ m ∧ (r m).schedule = [] := by
  obtain ⟨m, hm, -, hempty, -⟩ := hr.exists_last_named (List.dropLast_append_getLast (upcoming_ne_nil (r n))).symm
  exact ⟨m + 1, by omega, hempty⟩

/-- A block ends with the turn of its agent, and the next block begins. -/
theorem IsRun.exists_block_end {n : Nat} (h : (r n).schedule = []) :
    ∃ m, n ≤ m ∧ nextAgent (r m) = turnAgent (r n).turns ∧ (r (m + 1)).schedule = [] ∧
      (r (m + 1)).turns = (r n).turns + 1 := by
  obtain ⟨m, hm, hnamed, hempty, hturns⟩ := hr.exists_last_named (upcoming_nil (r n) h)
  exact ⟨m, hm, hnamed, hempty, by rw [hturns, advanceSchedule_turns, h]; rfl⟩

/-- The turn that ends the j-th block from here comes. -/
theorem IsRun.exists_turn (j : Nat) : ∀ {n : Nat}, (r n).schedule = [] →
    ∃ m, n ≤ m ∧ nextAgent (r m) = turnAgent ((r n).turns + j) := by
  induction j with
  | zero =>
    intro n h
    obtain ⟨m, hm, hnamed, -, -⟩ := hr.exists_block_end h
    exact ⟨m, hm, hnamed⟩
  | succ j ih =>
    intro n h
    obtain ⟨k, hk, -, hempty, hturns⟩ := hr.exists_block_end h
    obtain ⟨m, hm, hnamed⟩ := ih hempty
    exact ⟨m, by omega, by rw [hnamed, hturns, Nat.add_right_comm, Nat.add_assoc]⟩

theorem IsRun.exists_named (a : Agent) (n : Nat) : ∃ m, n ≤ m ∧ nextAgent (r m) = a := by
  obtain ⟨k, hk, hempty⟩ := hr.exists_block_begin n
  obtain ⟨j, hj⟩ := exists_turnAgent_eq a (r k).turns
  obtain ⟨m, hm, hnamed⟩ := hr.exists_turn j hempty
  exact ⟨m, hk.trans hm, hnamed.trans hj⟩

/-! ## Weak fairness and its rule -/

/-- An agent that stays enabled moves where it is named next (R712). -/
theorem IsRun.weaklyFair : WeaklyFair r := by
  intro a n henabled
  obtain ⟨m, hm, hnamed⟩ := hr.exists_named a n
  have hmove : enabled (nextAgent (r m)) (r m) = true := hnamed ▸ henabled m hm
  exact ⟨m, hm, (if_pos hmove).trans hnamed⟩

theorem IsRun.faults (n : Nat) : (r n).faults = [] := by
  obtain ⟨-, hf, -⟩ := step_next_mover _ _ (hr n)
  exact hf

/-- The rule by which weak fairness is used: where `P` enables an agent and every other agent's step keeps `P`, that agent moves at
last, from a state with `P`. -/
theorem IsRun.exists_move (a : Agent) {P : State → Prop} (henabled : ∀ s, s.faults = [] → P s → enabled a s = true)
    (hkeep : ∀ s t, step s = .next t → mover s ≠ a → P s → P t) {n : Nat} (hn : P (r n)) :
    ∃ m, n ≤ m ∧ mover (r m) = a ∧ P (r m) := by
  by_contra hnone
  have hP : ∀ m, n ≤ m → P (r m) := by
    intro m hm
    induction m, hm using Nat.le_induction with
    | base => exact hn
    | succ m hm ih => exact hkeep _ _ (hr m) (fun ha => hnone ⟨m, hm, ha, ih⟩) ih
  obtain ⟨m, hm, ha⟩ := hr.weaklyFair a n fun m hm => henabled _ (hr.faults m) (hP m hm)
  exact hnone ⟨m, hm, ha, hP m hm⟩

end

/-! ## Time -/

theorem enabled_tick {s : State} (hf : s.faults = []) : enabled .tick s = true := by
  simp [enabled, hf]

/-- TICK's step is the tick (R131). -/
theorem step_of_mover_tick {s t : State} (h : step s = .next t) (ha : mover s = .tick) : t = tick (advanceSchedule s) := by
  simpa [ha] using step_mover_effect h

/-- Only TICK writes `now` (R124, R136). -/
theorem step_now_of_mover_ne_tick {s t : State} (h : step s = .next t) (ha : mover s ≠ .tick) : t.now = s.now := by
  rcases step_mover_effect h with ⟨-, -, i, he⟩ | ⟨-, -, -, rfl⟩ | ⟨-, he⟩ | ⟨hm, -⟩
  · obtain ⟨-, -, -, -, hnow, -⟩ := he.timer_position
    exact hnow
  · rfl
  · obtain ⟨-, -, -, -, -, -, hnow⟩ := he.frame
    exact hnow
  · exact absurd hm ha

/-- `now` reaches every value, by induction on the ticks up to it, modulo 2^32 (R124). -/
theorem IsRun.exists_now_eq {r : Nat → State} (hr : IsRun r) (n : Nat) (t : Tick) : ∃ m, n ≤ m ∧ (r m).now = t := by
  induction hk : (t - (r n).now).toNat generalizing n with
  | zero => exact ⟨n, le_rfl, by bv_omega⟩
  | succ k ih =>
    obtain ⟨m, hm, ha, hnow⟩ := hr.exists_move .tick (P := fun s => s.now = (r n).now) (fun _ hf _ => enabled_tick hf)
      (fun _ _ h ha hs => (step_now_of_mover_ne_tick h ha).trans hs) rfl
    have htick : (r (m + 1)).now = (r n).now + 1#32 := by
      rw [step_of_mover_tick (hr m) ha, tick_now, advanceSchedule_now, hnow]
    obtain ⟨m', hm', ht⟩ := ih (m + 1) (by rw [htick]; bv_omega)
    exact ⟨m', by omega, ht⟩

/-! ## The pending interrupt -/

/-- Only the handler's entry clears `irqPending` (R126, R710). -/
theorem step_irqPending_of_mover_ne_isr {s t : State} (h : step s = .next t) (ha : mover s ≠ .isr)
    (hi : s.irqPending = true) : t.irqPending = true := by
  rcases step_mover_effect h with ⟨-, -, i, he⟩ | ⟨-, -, -, rfl⟩ | ⟨hm, -⟩ | ⟨-, rfl⟩
  · obtain ⟨-, -, -, -, -, hirq⟩ := he.timer_position
    exact hirq.trans hi
  · exact hi
  · exact absurd hm ha
  · simp [tick, hi]

/-- The ISR's step is the handler (R710). -/
theorem step_of_mover_isr {s t : State} (h : step s = .next t) (ha : mover s = .isr) :
    exec .timerEvent (advanceSchedule s) = .next t := by
  obtain ⟨-, -, hc⟩ := step_next_mover s t h
  obtain ⟨-, he⟩ : s.irqPending = true ∧ exec .timerEvent (advanceSchedule s) = .next t := by simpa [ha] using hc
  exact he

theorem IsRun.exists_isr_move {r : Nat → State} (hr : IsRun r) {n : Nat} (hi : (r n).irqPending = true) :
    ∃ m, n ≤ m ∧ mover (r m) = .isr ∧ exec .timerEvent (advanceSchedule (r m)) = .next (r (m + 1)) := by
  obtain ⟨m, hm, ha, -⟩ := hr.exists_move .isr (P := fun s => s.irqPending = true)
    (fun s hf hs => by simp [enabled, hf, hs]) (fun _ _ => step_irqPending_of_mover_ne_isr) hi
  exact ⟨m, hm, ha, step_of_mover_isr (hr m) ha⟩

/-! ## The settle delay -/

/-- A step in Settling: FG ends the delay at 0, the handler leaves it alone, a tick counts it down (R131, R551). -/
theorem step_of_settling {s t : State} (h : step s = .next t) (hs : s.fgMode = .settling) :
    (mover s = .fg ∧ s.settleRemaining = 0#32 ∧ t.fgMode = .ready) ∨
    (mover s = .isr ∧ t.fgMode = .settling ∧ t.settleRemaining = s.settleRemaining) ∨
    (mover s = .tick ∧ t = tick (advanceSchedule s)) := by
  rcases step_mover_effect h with ⟨-, hm, -⟩ | ⟨ha, -, h0, rfl⟩ | ⟨ha, he⟩ | htick
  · exact absurd (hm.symm.trans hs) nofun
  · exact .inl ⟨ha, h0, rfl⟩
  · obtain ⟨-, -, ⟨-, -, -, hmode, hleft, -⟩, -⟩ := he.frame
    exact .inr (.inl ⟨ha, hmode.trans hs, hleft⟩)
  · exact .inr (.inr htick)

/-- FG is Settling with this many ticks left. -/
def SettlesFor (k : Nat) (s : State) : Prop := s.fgMode = .settling ∧ s.settleRemaining.toNat = k

/-- A delay at its end stays there until FG moves. -/
theorem SettlesFor.keep_of_zero {s t : State} (hs : SettlesFor 0 s) (h : step s = .next t) (ha : mover s ≠ .fg) :
    SettlesFor 0 t := by
  obtain ⟨hmode, hleft⟩ := hs
  have h0 : s.settleRemaining = 0#32 := BitVec.eq_of_toNat_eq hleft
  rcases step_of_settling h hmode with ⟨hm, -⟩ | ⟨-, hmode', hleft'⟩ | ⟨-, rfl⟩
  · exact absurd hm ha
  · exact ⟨hmode', by rw [hleft', hleft]⟩
  · exact ⟨hmode, by simp [tick, h0]⟩

/-- A delay before its end is shortened by TICK alone. -/
theorem SettlesFor.keep_of_succ {k : Nat} {s t : State} (hs : SettlesFor (k + 1) s) (h : step s = .next t)
    (ha : mover s ≠ .tick) : SettlesFor (k + 1) t := by
  obtain ⟨hmode, hleft⟩ := hs
  rcases step_of_settling h hmode with ⟨-, h0, -⟩ | ⟨-, hmode', hleft'⟩ | ⟨hm, -⟩
  · simp [h0] at hleft
  · exact ⟨hmode', by rw [hleft', hleft]⟩
  · exact absurd hm ha

theorem SettlesFor.enabled_fg {s : State} (hs : SettlesFor 0 s) (hf : s.faults = []) : enabled .fg s = true := by
  obtain ⟨hmode, hleft⟩ := hs
  simp [enabled, hf, fgAction_settled hmode (BitVec.eq_of_toNat_eq hleft)]

/-- A settle delay ends, by induction on the ticks left: TICK moves at last, and at 0 FG does. -/
theorem IsRun.exists_ready {r : Nat → State} (hr : IsRun r) (k : Nat) :
    ∀ {n : Nat}, SettlesFor k (r n) → ∃ m, n ≤ m ∧ (r m).fgMode = .ready := by
  induction k with
  | zero =>
    intro n hn
    obtain ⟨m, hm, ha, hmode, -⟩ := hr.exists_move .fg (fun _ hf hs => hs.enabled_fg hf)
      (fun _ _ h ha hs => hs.keep_of_zero h ha) hn
    obtain ⟨-, hready⟩ : (r m).settleRemaining = 0#32 ∧ (r (m + 1)).fgMode = .ready := by
      simpa [ha] using step_of_settling (hr m) hmode
    exact ⟨m + 1, by omega, hready⟩
  | succ k ih =>
    intro n hn
    obtain ⟨m, hm, ha, hmode, hleft⟩ := hr.exists_move .tick (fun _ hf _ => enabled_tick hf)
      (fun _ _ h ha hs => hs.keep_of_succ h ha) hn
    have htick : SettlesFor k (r (m + 1)) := by
      rw [step_of_mover_tick (hr m) ha]
      exact ⟨hmode, tick_settleRemaining hmode hleft⟩
    obtain ⟨m', hm', hready⟩ := ih htick
    exact ⟨m', by omega, hready⟩

/-- Settles O12: weak fairness from the scheduler's turns, and from it time, the handler and the end of a settle delay. -/
theorem everyRunIsWeaklyFair : Obligations.EveryRunIsWeaklyFair := by
  unfold Obligations.EveryRunIsWeaklyFair
  exact fun r hr => ⟨hr.weaklyFair, hr.exists_now_eq, fun _ => hr.exists_isr_move, fun _ hs => hr.exists_ready _ ⟨hs, rfl⟩⟩

end Sys2Proof.Machine
end

section
/-! A burst of pushes and the room it needs (R811): O33. -/

namespace Sys2Proof.Machine

/-- Each of the four pushing operations is `pushRequest` of its own word (R510 to R513). -/
theorem exec_push {i : Instr} (hi : isQueuePush i = true) (s : State) : ∃ w, exec i s = .next (pushRequest w s) := by
  cases i with
  | qmove | qcutup | qcutdn | qcuttg => exact ⟨_, rfl⟩
  | _ => exact absurd hi nofun

theorem queueBounds_pushed {s : State} (hv : s.cfg.Valid) (hq : s.QueueBounds) (hf : isFull s = false) (e : Word) :
    (pushed e s).QueueBounds := by
  obtain ⟨hw, hr, -⟩ := hq
  refine ⟨nextIndex_lt hw, hr, ?_⟩
  have hfree := queueCount_le_of_not_full s hf
  rw [queueCount_pushed e hw hr (queueCount_succ_lt_of_not_full hv hf)]
  show queueCount s + 1 + s.cfg.queueHeadroom ≤ s.cfg.queueCapacity + 1
  omega

theorem queueCount_of_full {s : State} (hf : isFull s = true) :
    s.cfg.queueCapacity < queueCount s + s.cfg.queueHeadroom := by
  rw [isFull, decide_eq_true_iff, queueFree] at hf
  omega

/-- The operations complete from `s`, and these are the responses they give. -/
def Answers (is : List Instr) (s : State) (ws : List Word) : Prop :=
  ∃ t, execAll is s = .next t ∧ t.responses = s.responses ++ ws

/-- An operation that answers one word puts it before the answers of those after it. -/
theorem Answers.cons {i : Instr} {is : List Instr} {s u : State} {c : ResultCode} {v : BitVec 32} {ws : List Word}
    (he : exec i s = .next (respond c v u)) (hu : u.responses = s.responses) (h : Answers is (respond c v u) ws) :
    Answers (i :: is) s (responseWord c v :: ws) := by
  obtain ⟨t, ht, hresp⟩ := h
  refine ⟨t, by rw [execAll, he, ← ht], ?_⟩
  rw [hresp, respond_responses, hu, List.append_assoc, List.singleton_append]

/-- A burst of pushes gives one response each, all OK exactly when the burst fits (R811): a push that is not refused takes one place,
and one that is refused had none. -/
theorem answers_pushes {is : List Instr} : ∀ {s : State}, s.cfg.Valid → s.QueueBounds →
    (∀ i ∈ is, isQueuePush i = true) →
    ∃ ws, Answers is s ws ∧
      (ws = List.replicate is.length (responseWord .ok 0#32) ↔
        queueCount s + s.cfg.queueHeadroom + is.length ≤ s.cfg.queueCapacity + 1) := by
  induction is with
  | nil =>
    intro s _ hq _
    obtain ⟨-, -, hc⟩ := hq
    exact ⟨[], ⟨s, rfl, (List.append_nil _).symm⟩, iff_of_true rfl hc⟩
  | cons i is ih =>
    intro s hv hq hpush
    obtain ⟨hi, his⟩ := List.forall_mem_cons.1 hpush
    obtain ⟨w, he⟩ := exec_push hi s
    rw [List.length_cons, List.replicate_succ]
    cases hf : isFull s with
    | false =>
      rw [pushRequest_of_not_full hf] at he
      obtain ⟨ws, hws, hiff⟩ := ih (s := respond .ok 0#32 (pushed w s)) hv (queueBounds_pushed hv hq hf w) his
      refine ⟨_, .cons he rfl hws, ?_⟩
      obtain ⟨hw, hr, -⟩ := hq
      have hcount := queueCount_pushed w hw hr (queueCount_succ_lt_of_not_full hv hf)
      rw [List.cons_inj_right, hiff]
      show queueCount (pushed w s) + s.cfg.queueHeadroom + is.length ≤ s.cfg.queueCapacity + 1 ↔ _
      omega
    | true =>
      rw [pushRequest_of_full hf] at he
      obtain ⟨ws, hws, -⟩ := ih (s := respond .queueFull 0#32 s) hv hq his
      have hfull := queueCount_of_full hf
      have hcode : responseWord .queueFull 0#32 ≠ responseWord .ok 0#32 := by decide
      exact ⟨_, .cons he rfl hws, iff_of_false (fun h => hcode (List.cons_eq_cons.1 h).1) (by omega)⟩

/-- Settles O33: the responses a burst adds are all OK exactly when it fits. -/
theorem burstAdmittedExactlyWhenItFits : Obligations.BurstAdmittedExactlyWhenItFits := by
  unfold Obligations.BurstAdmittedExactlyWhenItFits
  intro s is hv hq hpush
  obtain ⟨ws, ⟨t, ht, hresp⟩, hiff⟩ := answers_pushes hv hq hpush
  refine ⟨t, ht, ?_⟩
  rw [hresp, List.append_cancel_left_eq]
  exact hiff

end Sys2Proof.Machine
end

section
/-! The end of a run is stable (R840): O28. -/

namespace Sys2Proof.Machine

/-- While FG is Ready and no request waits, only the handler and TICK move (R712). -/
theorem step_of_no_request {s t : State} (h : step s = .next t) (hq : s.requests = []) (hm : s.fgMode = .ready) :
    HandlerEffect (enterInterrupt (advanceSchedule s)) t ∨ t = tick (advanceSchedule s) := by
  obtain ⟨-, -, ⟨-, -, w, ws, hr, -⟩ | ⟨-, hs, -⟩ | ⟨-, -, he⟩ | ⟨-, ht⟩⟩ := step_next_mover s t h
  · exact absurd (hq.symm.trans hr) nofun
  · exact absurd (hm.symm.trans hs) nofun
  · exact .inl (handler_effect he)
  · exact .inr ht

/-- FG stays without work, since only the HOST adds requests (R843, log 6). -/
theorem step_keeps_no_request {s t : State} (h : step s = .next t) (hs : s.requests = [] ∧ s.fgMode = .ready) :
    t.requests = [] ∧ t.fgMode = .ready := by
  obtain ⟨hq, hm⟩ := hs
  rcases step_of_no_request h hq hm with he | rfl
  · obtain ⟨-, -, ⟨-, -, -, hmode, -⟩, -, -, hreq, -⟩ := he.frame
    exact ⟨hreq.trans hq, hmode.trans hm⟩
  · exact ⟨hq, hm⟩

/-- Settles O28: after the end only the idle handler, which re-arms the timer, and TICK move. -/
theorem endOfRunIsStable : Obligations.EndOfRunIsStable := by
  unfold Obligations.EndOfRunIsStable
  intro s t hend h
  obtain ⟨hq, hm, ha, hf⟩ := hend
  rcases step_of_no_request h hq hm with he | rfl
  · obtain ⟨n, rfl⟩ := he.eq_rearm ha
    exact ⟨⟨hq, hm, ha, hf⟩, rfl⟩
  · refine ⟨⟨hq, hm, ha, hf⟩, ?_⟩
    have hsettle : (tick (advanceSchedule s)).settleRemaining = s.settleRemaining := by simp [tick, hm]
    show ({ s with settleRemaining := (tick (advanceSchedule s)).settleRemaining } : State) = s
    rw [hsettle]

end Sys2Proof.Machine
end

section
/-! Every move of a run ends, and so does the run (R842): O13. -/

namespace Sys2Proof.Machine

/-! ## The edges left to a move -/

/-- How many edges a running move has still to make: two a microstep, and the fall of a pending pulse (R424, R425). -/
def edgesLeft (s : State) : Nat := 2 * stepsLeft s + s.pulsePhase.toNat

/-- While a move runs FG leaves the edges it has to make, but for a soft stop, after which no rising edge is left (R417). -/
theorem FgEffect.edgesLeft_le {i : Instr} {s t : State} (he : FgEffect i s t) (ha : s.active = true) :
    edgesLeft t ≤ edgesLeft s := by
  obtain ⟨-, -, -, -, -, -, -, -, -, hpulse, -⟩ := he.axis (.inr ha)
  have hsteps : stepsLeft t ≤ stepsLeft s := by
    cases he with
    | stop => simp [stepsLeft, ha]
    | stopall => simp [stepsLeft, ha]
    | started _ hi => simp [ha] at hi
    | _ => simp [stepsLeft, prepared, pushed]
  unfold edgesLeft
  rw [hpulse]
  omega

/-- A handler that is in time ends the move or makes one of its edges (R423, R426). -/
theorem HandlerEffect.edgesLeft_lt {s t : State} (he : HandlerEffect s t) (ha : s.active = true)
    (hd : s.pulsePhase = true → deadlinePassed s = true) : t.active = false ∨ edgesLeft t < edgesLeft s := by
  cases he with
  | idle hi => exact absurd (hi.symm.trans ha) nofun
  | disarmed => exact .inl rfl
  | completed => exact .inl rfl
  | fell _ _ hh =>
    refine .inr ?_
    by_cases hr : s.rampPhase = .none <;> simp [edgesLeft, stepsLeft, rearm, hr, hh]
  | rose _ _ hl hp =>
    have hstep := s32_stepToward hp
    refine .inr ?_
    simp [edgesLeft, stepsLeft, rearm, hl]
    omega
  | waited _ _ hh hw => exact absurd ((hd hh).symm.trans hw) nofun

/-- A running move with fewer than `k` edges left. -/
def RunsFor (k : Nat) (s : State) : Prop := s.active = true ∧ edgesLeft s < k

/-- Only the handler ends a move, and no other agent adds an edge to it (R206). -/
theorem RunsFor.keep {k : Nat} {s t : State} (hs : RunsFor k s) (h : step s = .next t) (ha : mover s ≠ .isr) :
    RunsFor k t := by
  obtain ⟨hact, hleft⟩ := hs
  rcases step_mover_effect h with ⟨-, -, i, he⟩ | ⟨-, -, -, rfl⟩ | ⟨hm, -⟩ | ⟨-, rfl⟩
  · obtain ⟨-, -, hact'⟩ := he.pulses hact
    exact ⟨hact', (he.edgesLeft_le hact).trans_lt hleft⟩
  · exact ⟨hact, hleft⟩
  · exact absurd hm ha
  · exact ⟨hact, hleft⟩

/-- A move that runs at `n` still runs at `m`, or has ended in between. -/
theorem exists_end_or_active {r : Nat → State} {n m : Nat} (hnm : n ≤ m) (hn : (r n).active = true) :
    (r m).active = true ∨ ∃ k, n ≤ k ∧ (r k).active = true ∧ (r (k + 1)).active = false := by
  induction m, hnm using Nat.le_induction with
  | base => exact .inl hn
  | succ m hm ih =>
    rcases ih with hact | hend
    · cases hnext : (r (m + 1)).active with
      | false => exact .inr ⟨m, hm, hact, hnext⟩
      | true => exact .inl rfl
    · exact .inr hend

/-! ## The timer and the requests -/

/-- Only the handler's return arms the timer (R125, R136). -/
theorem step_timerDeadline_of_mover_ne_isr {s t : State} (h : step s = .next t) (ha : mover s ≠ .isr) :
    t.timerDeadline = s.timerDeadline := by
  rcases step_mover_effect h with ⟨-, -, i, he⟩ | ⟨-, -, -, rfl⟩ | ⟨hm, -⟩ | ⟨-, rfl⟩
  · obtain ⟨-, -, -, hdeadline, -⟩ := he.timer_position
    exact hdeadline
  · rfl
  · exact absurd hm ha
  · rfl

/-- An operation leaves the HOST's list as it is (R300). -/
theorem FgEffect.requests {i : Instr} {s t : State} (he : FgEffect i s t) : t.requests = s.requests := by
  cases he <;> simp [prepared, pushed]

/-- No step adds a request: only the HOST does (R843, log 6). -/
theorem step_requests_length_le {s t : State} (h : step s = .next t) : t.requests.length ≤ s.requests.length := by
  obtain ⟨-, -, ⟨i, he⟩ | ⟨-, rfl⟩ | he | rfl⟩ := step_effect h
  · rw [he.requests]
    simp
  · exact le_rfl
  · obtain ⟨-, -, -, -, -, hreq, -⟩ := he.frame
    exact (congrArg List.length hreq).le
  · exact le_rfl

/-- FG is Ready and this request is its next. -/
def Offers (w : Word) (ws : List Word) (s : State) : Prop := s.fgMode = .ready ∧ s.requests = w :: ws

theorem Offers.enabled_fg {w : Word} {ws : List Word} {s : State} (hs : Offers w ws s) (hf : s.faults = []) :
    enabled .fg s = true := by
  obtain ⟨hm, hq⟩ := hs
  simp [enabled, hf, fgAction, hm, hq]

/-- Only FG takes a request or leaves Ready (R136). -/
theorem Offers.keep {w : Word} {ws : List Word} {s t : State} (hs : Offers w ws s) (h : step s = .next t)
    (ha : mover s ≠ .fg) : Offers w ws t := by
  obtain ⟨hm, hq⟩ := hs
  rcases step_mover_effect h with ⟨hfg, -⟩ | ⟨hfg, -⟩ | ⟨-, he⟩ | ⟨-, rfl⟩
  · exact absurd hfg ha
  · exact absurd hfg ha
  · obtain ⟨-, -, ⟨-, -, -, hmode, -⟩, -, -, hreq, -⟩ := he.frame
    exact ⟨hmode.trans hm, hreq.trans hq⟩
  · exact ⟨hm, hq⟩

/-- FG takes the request it is offered (R712). -/
theorem Offers.taken {w : Word} {ws : List Word} {s t : State} (hs : Offers w ws s) (h : step s = .next t)
    (ha : mover s = .fg) : t.requests = ws := by
  obtain ⟨hm, hq⟩ := hs
  obtain ⟨i, he⟩ : ∃ i, FgEffect i (dropRequest (advanceSchedule s)) t := by simpa [ha, hm] using step_mover_effect h
  simp [he.requests, hq]

/-! ## The handler again and again -/

section
variable {r : Nat → State} (hr : IsRun r)
include hr

/-- What every step keeps, a run keeps. -/
theorem IsRun.keep {P : State → Prop} (hkeep : ∀ s t, step s = .next t → P s → P t) {n m : Nat} (hnm : n ≤ m)
    (hn : P (r n)) : P (r m) := by
  induction m, hnm using Nat.le_induction with
  | base => exact hn
  | succ m _ ih => exact hkeep _ _ (hr m) ih

/-- The handler runs again and again: time reaches the deadline, which no one else moves (R126, R712). -/
theorem IsRun.exists_isr (n : Nat) : ∃ m, n ≤ m ∧ mover (r m) = .isr := by
  by_contra hnone
  have hne : ∀ m, n ≤ m → mover (r m) ≠ .isr := fun m hm ha => hnone ⟨m, hm, ha⟩
  have hdeadline : ∀ m, n ≤ m → (r m).timerDeadline = (r n).timerDeadline := by
    intro m hm
    induction m, hm using Nat.le_induction with
    | base => rfl
    | succ m hm ih => exact (step_timerDeadline_of_mover_ne_isr (hr m) (hne m hm)).trans ih
  obtain ⟨k, hk, hnow⟩ := hr.exists_now_eq n ((r n).timerDeadline - 1#32)
  obtain ⟨m, hm, ha, hlast⟩ := hr.exists_move .tick (P := fun s => s.now = (r n).timerDeadline - 1#32)
    (fun _ hf _ => enabled_tick hf) (fun _ _ h ha hs => (step_now_of_mover_ne_tick h ha).trans hs) hnow
  have hirq : (r (m + 1)).irqPending = true := by
    rw [step_of_mover_tick (hr m) ha]
    simp [tick, hlast, hdeadline m (hk.trans hm)]
  obtain ⟨j, hj, hisr, -⟩ := hr.exists_isr_move hirq
  exact hne j (by omega) hisr

/-- What the other agents keep still holds when the handler next moves. -/
theorem IsRun.exists_isr_keeping {P : State → Prop} (hkeep : ∀ s t, step s = .next t → mover s ≠ .isr → P s → P t)
    {n : Nat} (hn : P (r n)) : ∃ m, n ≤ m ∧ mover (r m) = .isr ∧ P (r m) := by
  by_contra hnone
  have hP : ∀ m, n ≤ m → P (r m) := by
    intro m hm
    induction m, hm using Nat.le_induction with
    | base => exact hn
    | succ m hm ih => exact hkeep _ _ (hr m) (fun ha => hnone ⟨m, hm, ha, ih⟩) ih
  obtain ⟨m, hm, ha⟩ := hr.exists_isr n
  exact hnone ⟨m, hm, ha, hP m hm⟩

/-! ## Every move ends -/

/-- With the handler in time from here on, a running move ends, by induction on the edges left (R423, R426). -/
theorem IsRun.exists_end_of_runsFor {N : Nat}
    (htime : ∀ n, N ≤ n → mover (r n) = .isr → (r n).pulsePhase = true → deadlinePassed (r n) = true) (k : Nat) :
    ∀ {n : Nat}, N ≤ n → RunsFor k (r n) → ∃ m, n ≤ m ∧ (r m).active = true ∧ (r (m + 1)).active = false := by
  induction k with
  | zero => exact fun _ ⟨_, hlt⟩ => absurd hlt (Nat.not_lt_zero _)
  | succ k ih =>
    intro n hN hn
    obtain ⟨m, hm, ha, hact, hleft⟩ := hr.exists_isr_keeping (fun _ _ h ha hs => hs.keep h ha) hn
    cases hnext : (r (m + 1)).active with
    | false => exact ⟨m, hm, hact, hnext⟩
    | true =>
      have he := handler_effect (step_of_mover_isr (hr m) ha)
      have hlt : edgesLeft (r (m + 1)) < edgesLeft (r m) :=
        (he.edgesLeft_lt hact (htime m (hN.trans hm) ha)).resolve_left (by simp [hnext])
      obtain ⟨j, hj, hend⟩ := ih (by omega) ⟨hnext, by omega⟩
      exact ⟨j, by omega, hend⟩

theorem IsRun.exists_end (htime : HandlerInTime r) {n : Nat} (hn : (r n).active = true) :
    ∃ m, n ≤ m ∧ (r m).active = true ∧ (r (m + 1)).active = false := by
  obtain ⟨N, hN⟩ := htime
  rcases exists_end_or_active (le_max_left n N) hn with hact | hend
  · obtain ⟨m, hm, hend⟩ := hr.exists_end_of_runsFor hN _ (le_max_right n N) ⟨hact, Nat.lt_succ_self _⟩
    exact ⟨m, (le_max_left n N).trans hm, hend⟩
  · exact hend

/-! ## The run ends -/

/-- FG is Ready again and again. -/
theorem IsRun.exists_ready_from (n : Nat) : ∃ m, n ≤ m ∧ (r m).fgMode = .ready := by
  cases hm : (r n).fgMode with
  | ready => exact ⟨n, le_rfl, hm⟩
  | settling => exact hr.exists_ready _ ⟨hm, rfl⟩

/-- The requests, which are finitely many, are taken at last, by induction on how many wait (R842, R843). -/
theorem IsRun.exists_fg_done (k : Nat) : ∀ {n : Nat}, (r n).requests.length < k →
    ∃ m, (r m).requests = [] ∧ (r m).fgMode = .ready := by
  induction k with
  | zero => exact fun hn => absurd hn (Nat.not_lt_zero _)
  | succ k ih =>
    intro n hn
    obtain ⟨m, hm, hready⟩ := hr.exists_ready_from n
    have hle : (r m).requests.length ≤ (r n).requests.length :=
      hr.keep (P := fun s => s.requests.length ≤ (r n).requests.length)
        (fun _ _ h hs => (step_requests_length_le h).trans hs) hm le_rfl
    cases hq : (r m).requests with
    | nil => exact ⟨m, hq, hready⟩
    | cons w ws =>
      obtain ⟨j, -, ha, hoffers⟩ := hr.exists_move .fg (P := Offers w ws) (fun _ hf hs => hs.enabled_fg hf)
        (fun _ _ h ha hs => hs.keep h ha) ⟨hready, hq⟩
      rw [hq, List.length_cons] at hle
      exact ih (n := j + 1) (by rw [hoffers.taken (hr j) ha]; omega)

theorem IsRun.exists_idle (htime : HandlerInTime r) (n : Nat) : ∃ m, n ≤ m ∧ (r m).active = false := by
  cases ha : (r n).active with
  | false => exact ⟨n, le_rfl, ha⟩
  | true =>
    obtain ⟨m, hm, -, hend⟩ := hr.exists_end htime ha
    exact ⟨m + 1, by omega, hend⟩

theorem IsRun.exists_ended (htime : HandlerInTime r) : ∃ m, (r m).Ended := by
  obtain ⟨n, hn⟩ := hr.exists_fg_done _ (Nat.lt_succ_self (r 0).requests.length)
  obtain ⟨m, hm, ha⟩ := hr.exists_idle htime n
  obtain ⟨hq, hready⟩ := hr.keep (fun _ _ => step_keeps_no_request) hm hn
  exact ⟨m, hq, hready, ha, hr.faults m⟩

end

/-- A step that ends a move stamps its Complete with the `now` it found (R131, R427). -/
theorem step_end {s t : State} (hs : s.Inv) (h : step s = .next t) (ha : s.active = true) (ht : t.active = false) :
    t.position = t.target ∧ t.trace.getLast? = some { event := .complete, time := s.now } := by
  obtain ⟨hp, -, -, hlast⟩ := completionMeansArrival s t h ha ht (halfPeriod_ne_zero hs ha)
  exact ⟨hp, hlast⟩

/-- Settles O13: a move ends since its edges are finitely many, at its target by O50; then FG's requests end, and with them the
run. -/
theorem everyRunCompletesItsMovesAndEnds : Obligations.EveryRunCompletesItsMovesAndEnds := by
  unfold Obligations.EveryRunCompletesItsMovesAndEnds
  intro r hr htime hinv
  refine ⟨fun n hn => ?_, hr.exists_ended htime⟩
  obtain ⟨m, hm, ha, hend⟩ := hr.exists_end htime hn
  have hinvm : (r m).Inv := hr.keep (fun s t h hs => stepKeepsInvariant s t hs h) (Nat.zero_le m) hinv
  exact ⟨m, hm, ha, hend, step_end hinvm (hr m) ha hend⟩

end Sys2Proof.Machine
end
